-- ==== Sys2Proof/Word.lean ====
section
/-! DEFINITION. The words of the part: a byte of a frame or of host memory, a 16-bit tag or check, a 32-bit host
address, register or millisecond count. -/

namespace Sys2Proof

/-- One byte: of a frame on a line (R1) or of host memory. -/
abbrev Byte := BitVec 8

/-- A 16-bit field: a tag (R187), the check of a frame (R10). -/
abbrev Half := BitVec 16

/-- A 32-bit word: a host address, a register of the window (R190), the millisecond count (R182). -/
abbrev Word := BitVec 32

end Sys2Proof
end

