-- ==== Sys2Proof/Config.lean ====
section
/-! DEFINITION. What the part fixes. The spec leaves no value open that a command could not be given, so there is no free
value. -/

namespace Sys2Proof

/-- Largest number of DATA characters of a frame (R4). -/
def Config.maxData : Nat := 48

/-- Bytes of a submission record (R187). -/
def Config.recordBytes : Nat := 64

/-- Thirds of a microsecond in one millisecond: a bit time is a whole number, the divisor, of thirds (R2). -/
def Config.thirdsPerMs : Nat := 3000

/-- Thirds of a microsecond in one unit of 100 microseconds. -/
def Config.thirdsPer100us : Nat := 300

end Sys2Proof
end

