-- ==== Sys2Proof/Machine/Bytes.lean ====
section
/-! DEFINITION. Bytes of records and images: little-endian fields (R187), single bits, saturating counts. -/

namespace Sys2Proof.Machine

/-- The byte at an offset; past the last byte, 0. -/
def byteAt (r : List Byte) (k : Nat) : Byte := r.getD k 0

/-- The two bytes at an offset, little-endian (R187), as a number. -/
def u16At (r : List Byte) (k : Nat) : Nat := (byteAt r k).toNat + 256 * (byteAt r (k + 1)).toNat

/-- The four bytes at an offset, little-endian (R187). -/
def u32At (r : List Byte) (k : Nat) : Word := BitVec.ofNat 32 (u16At r k + 65536 * u16At r (k + 2))

/-- `n` bytes from an offset. -/
def bytesAt (r : List Byte) (k n : Nat) : List Byte := (List.range n).map fun j => byteAt r (k + j)

/-- One byte holding a number modulo 256. -/
def le8 (n : Nat) : Byte := BitVec.ofNat 8 n

/-- Two bytes, little-endian. -/
def le16 (n : Nat) : List Byte := [le8 n, le8 (n / 256)]

/-- Four bytes, little-endian. -/
def le32 (n : Nat) : List Byte := [le8 n, le8 (n / 256), le8 (n / 65536), le8 (n / 16777216)]

/-- A list of bytes cut or filled to `n` bytes with a filler. -/
def padTo (n : Nat) (fill : Byte) (l : List Byte) : List Byte := (l ++ List.replicate n fill).take n

/-- The weight of bit `k` when `b` holds. -/
def bit (b : Bool) (k : Nat) : Nat := if b then 2 ^ k else 0

/-- One more, saturating at `top`. -/
def satSucc (top n : Nat) : Nat := min top (n + 1)

/-- A sum saturating at `top`. -/
def satAdd (top a b : Nat) : Nat := min top (a + b)

/-- The number of places from the place after `pos` to `x`, in a ring of `n` places: the place after `pos` has rank 0
and `pos` itself the highest (R101, R126, R136). -/
def ringRank (n pos x : Nat) : Nat := (x + (n - 1) - pos) % n

/-- The first of the elements with the least measure. -/
def pickMin {α : Type} (f : α → Nat) : List α → Option α
  | [] => none
  | x :: xs =>
    match pickMin f xs with
    | none => some x
    | some y => if f x ≤ f y then some x else some y

end Sys2Proof.Machine
end

