-- ==== Sys2Proof/Syntax.lean ====
section
/-! DEFINITION. The commands of the part: one constructor of `Instr` per row of spec/opcode_table.json, with the
operands that the outside world supplies with it. -/

namespace Sys2Proof

/-- LINE 0 to LINE 3. -/
abbrev LineId := Fin 4
/-- A transaction slot, 0 to 31 (R65). -/
abbrev SlotId := Fin 32
/-- A node index, 0 to 127 (R41). -/
abbrev NodeId := Fin 128
/-- A poll id, 0 to 63 (R106). -/
abbrev PollId := Fin 64
/-- SQ0 to SQ7 (R123). -/
abbrev SqId := Fin 8
/-- CQ0 to CQ3 (R131). -/
abbrev CqId := Fin 4

/-- The host bus's answer to a bus-master write (R186). -/
inductive WriteAnswer where
  | accepted
  | error
  deriving DecidableEq, Repr

/-- The host bus's answer to a bus-master read (R186): the bytes read, or an error. -/
inductive ReadAnswer where
  | data (bytes : List Byte)
  | error
  deriving DecidableEq, Repr

/-- What the receiver heard over the bit times of a character that the part sent (R22). -/
inductive Echo where
  /-- No start bit was received. -/
  | silence
  /-- A character was received, with this byte, mark bit, and first stop bit at mark or not. -/
  | char (byte : Byte) (mark : Bool) (stopOk : Bool)
  deriving DecidableEq, Repr

/-- What a received character ends in (R1, R29): its mark bit, and its first stop bit at mark or not. -/
structure CharEnd where
  mark   : Bool
  stopOk : Bool
  deriving DecidableEq, Repr

/-- The width of a target access (R183). -/
inductive Width where
  | bits8 | bits16 | bits32
  deriving DecidableEq, Repr

/-- One target access to the register window (R183): a read or a write at a byte offset. -/
structure Access where
  write  : Bool
  offset : Nat
  width  : Width
  value  : Word
  deriving DecidableEq, Repr

/-- The commands. A command of an administrative row carries the 64 bytes that the SQ0 record read delivered: it is
the host bus's successful answer to that read (R130), sorted by the record's opcode. -/
inductive Instr where
  -- power and the register window (R182 to R185)
  | powerOn
  | resetRequest
  | enableRequest
  | drainRequest
  | post (value : Word)
  | release (value : Word)
  | causeAcknowledge (value : Word)
  | registerWrite (access : Access)
  -- fetching from host queues and from SQ0 (R67, R126, R127, R130)
  | fetchStart
  | fetchRecordReadDone (r : List Byte)
  | fetchDataReadDone (bytes : List Byte)
  | fetchReadError
  | adminFetchStart
  | adminReadError
  -- the administrative commands, as the record read from SQ0 spells them (R155)
  | adminInvalidOpcode (r : List Byte)
  | createCq (r : List Byte)
  | deleteCq (r : List Byte)
  | tuneCq (r : List Byte)
  | createSq (r : List Byte)
  | deleteSq (r : List Byte)
  | configureLine (r : List Byte)
  | startLine (r : List Byte)
  | stopLineDraining (r : List Byte)
  | stopLineAborting (r : List Byte)
  | setNode (r : List Byte)
  | removeNode (r : List Byte)
  | readNode (r : List Byte)
  | addPoll (r : List Byte)
  | removePoll (r : List Byte)
  | readPoll (r : List Byte)
  | abortBySqAndTag (r : List Byte)
  | abortByNode (r : List Byte)
  | abortByLine (r : List Byte)
  | setNoticeQueue (r : List Byte)
  -- what ends an administrative command later (R154, R169, R170, R172, R174)
  | addPollDataReadDone (answer : ReadAnswer)
  | readNodeImageWriteDone (answer : WriteAnswer)
  | readPollImageWriteDone (answer : WriteAnswer)
  | abortComplete
  | readyCommandResult
  -- the completion writer (R119, R133, R136, R138) and the reply data write (R81)
  | writerBeginEntry
  | pollDataWriteDone (answer : WriteAnswer)
  | entryWriteDone
  | entryWriteError
  | replyDataWriteDone (answer : WriteAnswer)
  -- the line schedulers and the line units (chapters 2 and 5)
  | schedulerChoice (line : LineId)
  | startBitInIdle (line : LineId)
  | characterReceived (line : LineId) (byte : Byte) (last : CharEnd)
  | characterSent (line : LineId) (echo : Echo)
  | missingStopBit (line : LineId)
  | guardTimeReached (line : LineId)
  | guardWaitBoundReached (line : LineId)
  | gapLimitPassed (line : LineId)
  | responseTimeout (line : LineId)
  | breakDetected (line : LineId)
  | faultRecovery (line : LineId)
  | broadcastQuietExpired (line : LineId)
  -- expiries of the timebase
  | deadlineExpired (slot : SlotId)
  | holdOffEnd (node : NodeId)
  | probeDue (node : NodeId)
  | probePromoted (node : NodeId)
  | periodExpiry (poll : PollId)
  | aggregatorTimerExpired (cq : CqId)
  -- conditions that come to hold
  | lineEntersOff (line : LineId)
  | controllerStopped
  | nodeRecordVacant (node : NodeId)
  | pollEntryEmpty (poll : PollId)
  | sqBecomesAbsent (sq : SqId)
  | cqBecomesAbsent (cq : CqId)
  deriving DecidableEq, Repr

end Sys2Proof
end

