-- ==== Sys2Proof/Machine/State.lean ====
section
/-! DEFINITION. The state of the part as plain data, its fault and refusal reasons, and the state after power-on. -/

namespace Sys2Proof.Machine

/-- The controller state (R175). -/
inductive Ctl where
  | off | running | draining | stopped | fatal
  deriving DecidableEq, Repr

/-- The fatal cause (R175). -/
inductive FatalCause where
  | noCause | completionWrite | noticeWrite
  deriving DecidableEq, Repr

/-- The line states (R15). -/
inductive LineSt where
  | off | starting | idle | guard | tx | wait | rx | settle | fault
  deriving DecidableEq, Repr

/-- The phases of STARTING (R36): the guard wait, the sending, the gap wait after a clash, the quiet. -/
inductive StartPhase where
  | guardWait | sending | clashed | quiet
  deriving DecidableEq, Repr

/-- The states of a node record (R43). -/
inductive Health where
  | unknown | online | suspect | offline | disabled
  deriving DecidableEq, Repr

/-- The outcomes of an attempt (R32). -/
inductive Outcome where
  | timeout | checkError | truncated | charError | clash | fault | replyOk | replyReject | replyBusy
  deriving DecidableEq, Repr

/-- The statuses of completions (R90, R155). -/
inductive Status where
  | ok | dataTruncated | rejected | noReply | checkError | truncated | lineError | clash | lineFault | nodeBusy
  | nodeOffline | nodeDisabled | unknownNode | invalidField | expired | aborted | lineStopped | hostWriteError
  | invalidState | inUse | notFound | tableFull | hostReadError
  deriving DecidableEq, Repr

/-- The kinds of transaction (R69 to R71). -/
inductive Kind where
  | exchange | broadcast | discover
  deriving DecidableEq, Repr

/-- The class of a submission queue (R123). -/
inductive SqClass where
  | urgent | normal
  deriving DecidableEq, Repr

/-- The states of a slot that is not FREE (R65). -/
inductive SlotSt where
  | fetching | pending | active | held
  deriving DecidableEq, Repr

/-- The states of a submission or completion queue (R123, R131). -/
inductive QueueSt where
  | absent | active | stalled | deleting
  deriving DecidableEq, Repr

/-- The error code of a queue; absence is `none` of Option (R123, R131). -/
inductive QueueErr where
  | readError | badPost | badRelease
  deriving DecidableEq, Repr

/-- The states of a poll entry (R106). -/
inductive PollSt where
  | active | suspended | faulted
  deriving DecidableEq, Repr

/-- The kind of the last entry written to a CQ (R131). -/
inductive EntryKind where
  | completion | notice
  deriving DecidableEq, Repr

/-- The delay timer of an interrupt aggregator, with the elapsed units of 100 us while it runs (R148). -/
inductive AggTimer where
  | stopped | running (elapsed : Nat) | expired
  deriving DecidableEq, Repr

/-- The owner of an attempt (R19). -/
inductive Owner where
  | slot (i : SlotId) | poll (p : PollId) | probe (n : NodeId)
  deriving DecidableEq, Repr

/-- The owner named by a node record's open exchange (R55). -/
inductive OpenX where
  | slot (i : SlotId) | poll (p : PollId)
  deriving DecidableEq, Repr

/-- A source of notices (R141); also the object that a waiting admin command waits on (R153). -/
inductive Source where
  | sq (q : SqId) | cq (c : CqId) | line (l : LineId) | node (n : NodeId) | poll (p : PollId)
  deriving DecidableEq, Repr

/-- The ten settings of a line (R17). -/
structure LineCfg where
  divisor    : Nat
  stopBits   : Nat
  guardTime  : Nat
  gapLimit   : Nat
  respLimit  : Nat
  retryLimit : Nat
  offThresh  : Nat
  probeIval  : Nat
  busyHold   : Nat
  quietTime  : Nat
  deriving DecidableEq, Repr

/-- The defaults of R17. -/
def LineCfg.default : LineCfg :=
  { divisor := 26, stopBits := 1, guardTime := 22, gapLimit := 4, respLimit := 1100, retryLimit := 2, offThresh := 3,
    probeIval := 1000, busyHold := 20, quietTime := 220 }

/-- An attempt handed to a line unit (R19): whose it is, the parts of its request frame, and the response limit it
carries, absent for a broadcast. -/
structure Attempt where
  owner     : Owner
  address   : Byte
  seq       : Bool
  function  : Byte
  data      : List Byte
  respLimit : Option Nat
  deriving DecidableEq, Repr

/-- A line unit (R15). Timers count bit times (R18). -/
structure Line where
  st            : LineSt
  /-- Phase of STARTING; read in that state alone. -/
  phase         : StartPhase
  /-- The line entered FAULT from STARTING before its RESYNC was sent whole (R35). -/
  resyncOwed    : Bool
  stopRequested : Bool
  attempt       : Option Attempt
  cfg           : LineCfg
  guardT        : Nat
  gapT          : Nat
  respT         : Nat
  breakT        : Nat
  /-- Bit times since the wire was last known to be at space: it can have been at mark that long (R35). -/
  markT         : Nat
  quietT        : Nat
  quietOn       : Bool
  /-- Echo compare: the position in the frame of the character being sent. -/
  txPos         : Nat
  /-- The receive assembly buffer: the bytes stored, and how many characters have been counted (R27). -/
  rxBuf         : List Byte
  rxCount       : Nat
  transitions   : Nat
  /-- A foreign frame is being discarded in WAIT (R24). -/
  foreign       : Bool
  /-- Bit times since the end of the last stop bit of the request frame (R26). -/
  sinceSent     : Nat
  /-- The turnaround that the frame being assembled would have (R26). -/
  turn          : Nat
  /-- Bit times since the hand-over, for the bound on the guard wait (R21). -/
  waited        : Nat
  /-- A character is in progress (R18). -/
  inChar        : Bool
  /-- Bit times since the start bit of the character in progress (R18). -/
  charT         : Nat
  /-- The wire is known to be at space, in every line state, OFF among them. The levels within a character in progress are
  not known (log entry 5). -/
  space         : Bool
  /-- Thirds of a microsecond into the current bit time. -/
  bitPhase      : Nat
  /-- The line's driver is enabled (R15); in OFF, and in STARTING before its guard wait ends, for the rest of a character that
  an aborting STOP LINE found being sent (R16, R38). -/
  driver        : Bool
  deriving DecidableEq, Repr

/-- A line scheduler (R92): the line list, and one position per class. In classes 1 and 3 the line list is the place
`none`, which R92 writes as -1; in class 2 a promoted probe has the key `none`, which R92 writes as -1. -/
structure Sched where
  lineList : List SlotId
  pos1     : Option NodeId
  pos2     : NodeId × Option PollId
  pos3     : Option NodeId
  pos4     : NodeId
  deriving DecidableEq, Repr

/-- An in-use node record (R43). -/
structure Node where
  line        : LineId
  address     : Byte
  health      : Health
  seq         : Bool
  respLimit   : Nat
  retryLimit  : Nat
  offThresh   : Nat
  failures    : Nat
  openX       : Option OpenX
  holdOffEnd  : Option Word
  nextProbe   : Option Word
  lastTurn    : Nat
  maxTurn     : Nat
  successes   : Nat
  silents     : Nat
  pendingList : List SlotId
  noticeMark  : Bool
  transitions : Nat
  removal     : Bool
  /-- The node's probe has fallen due and has not been handed over (R58). -/
  probeDue    : Bool
  /-- The due probe has been promoted to class 2 (R98). -/
  promoted    : Bool
  deriving DecidableEq, Repr

/-- The settled result of a slot (R65). -/
structure Settled where
  status     : Status
  replyLen   : Nat
  replyCode  : Byte
  turn       : Nat
  nodeState  : Option Health
  abortLate  : Bool
  outcomeUnk : Bool
  deriving DecidableEq, Repr

/-- What a slot takes from a validated record (R68), and how far the transaction has come (R65). -/
structure Txn where
  kind      : Kind
  line      : LineId
  address   : Byte
  function  : Byte
  data      : List Byte
  busyLimit : Nat
  /-- `none` is *node value*, until the first attempt (R75). -/
  retry     : Option Nat
  deadline  : Option Word
  buffer    : Word
  capacity  : Nat
  /-- Present from the first attempt of an EXCHANGE. -/
  seq       : Option Bool
  attempts  : Nat
  busies    : Nat
  lastOut   : Option Outcome
  lastHint  : Option Byte
  abortMark : Bool
  latePass  : Bool
  detached  : Bool
  deriving DecidableEq, Repr

/-- A slot that is not FREE (R65). `txn` is present from validation, when the record spells a kind and a line. -/
structure Slot where
  st      : SlotSt
  sq      : SqId
  cls     : SqClass
  tag     : Nat
  txn     : Option Txn
  settled : Option Settled
  deriving DecidableEq, Repr

/-- The context of a poll instance in flight (R107). -/
structure PollInst where
  seq      : Bool
  retry    : Nat
  attempts : Nat
  lastOut  : Option Outcome
  deriving DecidableEq, Repr

/-- An in-use poll entry (R106). The in-flight mark is set exactly while `inst` is present. -/
structure Poll where
  node       : NodeId
  function   : Byte
  data       : List Byte
  period     : Nat
  compare    : BitVec 48
  buffer     : Word
  st         : PollSt
  nextDue    : Option Word
  due        : Bool
  inst       : Option PollInst
  running    : Bool
  baseline   : Bool
  /-- The stored reply data; its length is the stored reply length. -/
  stored     : List Byte
  change     : Bool
  lastResult : Option Status
  missed     : Nat
  removal    : Bool
  deriving DecidableEq, Repr

/-- A submission queue descriptor (R123). The occupied slots are counted from the slots themselves. -/
structure Sq where
  st         : QueueSt
  base       : Word
  size       : Nat
  head       : Nat
  tail       : Nat
  cq         : CqId
  cls        : SqClass
  quota      : Nat
  error      : Option QueueErr
  noticeMark : Bool
  deriving DecidableEq, Repr

/-- An entry of a held list (R132). -/
inductive HeldRef where
  | slot (i : SlotId) | admin
  deriving DecidableEq, Repr

/-- A completion queue descriptor (R131) with its interrupt aggregator (R148) and its cause bit (R151). -/
structure Cq where
  st         : QueueSt
  base       : Word
  size       : Nat
  head       : Nat
  tail       : Nat
  unreleased : Nat
  phase      : Bool
  irqEnable  : Bool
  threshold  : Nat
  delay      : Nat
  held       : List HeldRef
  lastKind   : EntryKind
  error      : Option QueueErr
  noticeMark : Bool
  count      : Nat
  timer      : AggTimer
  cause      : Bool
  deriving DecidableEq, Repr

/-- The fetch in progress (R67, R126): its slot, its queue, and, once the record has been read and the data read runs,
the record. -/
structure Fetch where
  slot   : SlotId
  sq     : SqId
  record : Option (List Byte)
  deriving DecidableEq, Repr

/-- The entry that the completion writer writes (R135, R136). -/
inductive EntryWork where
  | completion (ref : HeldRef)
  | notice
  /-- A POLL_CHANGE whose data write runs first (R119): the entry, its node index, its state at the taking, the copied
  reply length, and whether the entry has become empty since. -/
  | pollData (p : PollId) (node : NodeId) (st : PollSt) (len : Nat) (gone : Bool)
  deriving DecidableEq, Repr

/-- The entry in progress, and the CQ it is for. -/
structure Entry where
  cq   : CqId
  work : EntryWork
  deriving DecidableEq, Repr

/-- An outstanding bus-master read (R186). -/
structure BusRead where
  addr : Word
  len  : Nat
  deriving DecidableEq, Repr

/-- Whose a bus-master write is. -/
inductive WriteFor where
  | entry | reply (i : SlotId) | pollData | image
  deriving DecidableEq, Repr

/-- A bus-master write, outstanding or waiting (R186). -/
structure BusWrite where
  addr : Word
  data : List Byte
  use  : WriteFor
  deriving DecidableEq, Repr

/-- An ADD POLL in work, past its checks (R170). -/
structure NewPoll where
  id       : PollId
  node     : NodeId
  function : Byte
  reqLen   : Nat
  period   : Nat
  compare  : BitVec 48
  buffer   : Word
  deriving DecidableEq, Repr

/-- The command in work (R153) across its host access, or ABORT across its wait. -/
inductive InWork where
  /-- READ NODE: the tag, the record, its state in the image, and, with the clear option, the maximum turnaround,
  success count and silent-failure count written in the image (R62). -/
  | readNode (tag : Nat) (n : NodeId) (health : Health) (cleared : Option (Nat × Nat × Nat))
  | addPoll (tag : Nat) (np : NewPoll)
  /-- READ POLL: the tag, the entry, and the missed count written in the image (R120). -/
  | readPoll (tag : Nat) (p : PollId) (missed : Nat)
  /-- ABORT: the tag, the number of slots matched, and the matched slots not yet HELD or FREE (R174). -/
  | abort (tag : Nat) (count : Nat) (slots : List SlotId)
  deriving DecidableEq, Repr

/-- An admin completion (R156). -/
structure AdminDone where
  tag       : Nat
  status    : Status
  value     : Nat
  nodeState : Option Health
  deriving DecidableEq, Repr

/-- A waiting command (R153): its tag and its object; the object's kind tells the opcode. -/
structure WaitCmd where
  tag : Nat
  obj : Source
  deriving DecidableEq, Repr

/-- What the host port last answered to a target access (R183). -/
inductive PortAnswer where
  | quiet | written | value (w : Word) | busError
  deriving DecidableEq, Repr

/-- The state of the part. -/
structure State where
  -- the controller (R175) and the admin geometry registers (R176, R190)
  ctl         : Ctl
  fatalCause  : FatalCause
  configError : Bool
  asqBase     : Word
  acqBase     : Word
  adminSqSize : BitVec 13
  adminCqSize : BitVec 13
  /-- The FATAL cause of CAUSE (R151). -/
  fatalIrq    : Bool
  -- the timebase: thirds of a microsecond into the millisecond, and the millisecond count (R182)
  thirds      : Nat
  ms          : Word
  -- the tables
  lines       : Vector Line 4
  scheds      : Vector Sched 4
  nodes       : Vector (Option Node) 128
  slots       : Vector (Option Slot) 32
  polls       : Vector (Option Poll) 64
  sqs         : Vector Sq 8
  cqs         : Vector Cq 4
  -- the queue unit: the fetch engine and the completion writer
  fetch       : Option Fetch
  fetchPosU   : Nat
  fetchPosN   : Nat
  writer      : Option Entry
  writerPos   : CqId
  -- the notice unit
  noticeList  : List Source
  noticeCq    : CqId
  -- the admin unit: the context, the admin result, the waiting list and the ready commands (R153)
  adminWork   : Option InWork
  adminResult : Option AdminDone
  waiting     : List WaitCmd
  ready       : List WaitCmd
  -- the host port as master (R186): per requester the outstanding read and the writes, the first of them outstanding
  quRead      : Option BusRead
  quWrites    : List BusWrite
  adRead      : Option BusRead
  adWrite     : Option BusWrite
  nuWrite     : Option BusWrite
  -- the host port as target
  answer      : PortAnswer
  -- the model's own: the commands that wait
  pending     : List Instr
  deriving DecidableEq, Repr

/-- A line unit in OFF with a configuration and a transitions count (R39), the wire at space or not. -/
def Line.offWith (cfg : LineCfg) (transitions : Nat) (space : Bool) : Line :=
  { st := .off, phase := .guardWait, resyncOwed := false, stopRequested := false, attempt := none, cfg := cfg,
    guardT := 0, gapT := 0, respT := 0, breakT := 0, markT := 0, quietT := 0, quietOn := false, txPos := 0, rxBuf := [],
    rxCount := 0, transitions := transitions, foreign := false, sinceSent := 0, turn := 0, waited := 0,
    inChar := false, charT := 0, space := space, bitPhase := 0, driver := false }

/-- The initial positions of a scheduler (R93). -/
def Sched.reset : Sched :=
  { lineList := [], pos1 := some 127, pos2 := (127, some 63), pos3 := some 127, pos4 := 127 }

/-- An ABSENT submission queue (R140). -/
def Sq.absent : Sq :=
  { st := .absent, base := 0, size := 0, head := 0, tail := 0, cq := 0, cls := .normal, quota := 0, error := none,
    noticeMark := false }

/-- An ABSENT completion queue (R140, R152). -/
def Cq.absent : Cq :=
  { st := .absent, base := 0, size := 0, head := 0, tail := 0, unreleased := 0, phase := true, irqEnable := false,
    threshold := 1, delay := 0, held := [], lastKind := .notice, error := none, noticeMark := false, count := 0,
    timer := .stopped, cause := false }

/-- The part right after power-on (R182, with R39, R64, R91, R93, R122, R140, R152, R153). -/
def State.reset : State :=
  { ctl := .off, fatalCause := .noCause, configError := false, asqBase := 0, acqBase := 0, adminSqSize := 0,
    adminCqSize := 0, fatalIrq := false, thirds := 0, ms := 0,
    lines := Vector.replicate 4 (Line.offWith LineCfg.default 0 false), scheds := Vector.replicate 4 Sched.reset,
    nodes := Vector.replicate 128 none, slots := Vector.replicate 32 none, polls := Vector.replicate 64 none,
    sqs := Vector.replicate 8 Sq.absent, cqs := Vector.replicate 4 Cq.absent, fetch := none, fetchPosU := 7,
    fetchPosN := 7, writer := none, writerPos := 3, noticeList := [], noticeCq := 0, adminWork := none,
    adminResult := none, waiting := [], ready := [], quRead := none, quWrites := [], adRead := none, adWrite := none,
    nuWrite := none, answer := .quiet, pending := [] }

/-- Why the part stops with a fault. No command of this part stops it: the spec gives every command an effect. -/
inductive Fault where
  /-- Raised by no meaning; it stands because the type may not be empty in use. Safe. -/
  | noFault
  deriving DecidableEq, Repr

/-- Why a command is refused. -/
inductive Refusal where
  /-- A command without a meaning yet; raised by `exec`'s arms alone, and by none of them now. Safe. -/
  | notModelled (mnemonic : String)
  deriving DecidableEq, Repr

end Sys2Proof.Machine
end

