-- ==== Sys2Proof/Machine/Operands.lean ====
section
/-! DEFINITION. The operands: the fields of host and administrative records (R187) and of written registers (R190). -/

namespace Sys2Proof.Machine

/-! ### The header of a record (R187) -/

def recOpcode (r : List Byte) : Byte := byteAt r 0
def recFlags (r : List Byte) : Byte := byteAt r 1
def recTag (r : List Byte) : Nat := u16At r 2
def recLine (r : List Byte) : Nat := (byteAt r 4).toNat
def recAddress (r : List Byte) : Byte := byteAt r 5
def recFunction (r : List Byte) : Byte := byteAt r 6
def recReqLen (r : List Byte) : Nat := (byteAt r 7).toNat
def recBusyLimit (r : List Byte) : Nat := (byteAt r 8).toNat
def recRetryLimit (r : List Byte) : Nat := (byteAt r 9).toNat
def recDeadline (r : List Byte) : Nat := u16At r 10
def recCapacity (r : List Byte) : Nat := (byteAt r 12).toNat
def recBuffer (r : List Byte) : Word := u32At r 16

/-- Bit 0 of the options byte. -/
def recOption (r : List Byte) : Bool := (recFlags r).getLsbD 0

/-- The kind of a host record: 01h, 02h, 03h (R187). -/
def recKind (r : List Byte) : Option Kind :=
  if recOpcode r = 0x01#8 then some .exchange
  else if recOpcode r = 0x02#8 then some .broadcast
  else if recOpcode r = 0x03#8 then some .discover
  else none

/-- A number as a line, a queue or an entry, when it is in range. -/
def asLine (n : Nat) : Option LineId := if h : n < 4 then some ⟨n, h⟩ else none
def asCq (n : Nat) : Option CqId := if h : n < 4 then some ⟨n, h⟩ else none
def asSq (n : Nat) : Option SqId := if h : n < 8 then some ⟨n, h⟩ else none
def asPoll (n : Nat) : Option PollId := if h : n < 64 then some ⟨n, h⟩ else none

/-- The request data that the fetch reads next: EXCHANGE or BROADCAST with a request length of 1 to 48 (R67). -/
def recDataLen (r : List Byte) : Nat :=
  match recKind r with
  | some .exchange | some .broadcast => if recReqLen r ≤ Config.maxData then recReqLen r else 0
  | _ => 0

/-- A single-node address, 01h to FEh (R5). -/
def unicast (a : Byte) : Bool := a != 0x00#8 && a != 0xFF#8

/-- A retry limit field: 0 to 7, or 0Fh (R43, R72). -/
def retryFieldOk (n : Nat) : Bool := n ≤ 7 || n == 15

/-- A function that an EXCHANGE may ask for: 01h to 3Bh (R6). -/
def hostFunction (f : Byte) : Bool := decide (1 ≤ f.toNat ∧ f.toNat ≤ 0x3B)

/-- The first row of R72: a field of a host record is outside its range. The check against the node table is apart. -/
def recFieldBad (r : List Byte) : Bool :=
  match recKind r with
  | none => true
  | some k =>
    decide (3 < recLine r) || decide (Config.maxData < recCapacity r) || decide (15 < recBusyLimit r) ||
      !retryFieldOk (recRetryLimit r) ||
      match k with
      | .exchange =>
        decide (Config.maxData < recReqLen r) || !hostFunction (recFunction r) || !unicast (recAddress r)
      | .broadcast =>
        decide (Config.maxData < recReqLen r) || !(hostFunction (recFunction r) || recFunction r == 0x3F#8)
      | .discover => !unicast (recAddress r)

/-! ### Parameter blocks (R187) -/

/-- The id at offset 20, of a CQ, an SQ or a poll entry. -/
def parId (r : List Byte) : Nat := (byteAt r 20).toNat
def parThreshold (r : List Byte) : Nat := (byteAt r 21).toNat
def parDelay (r : List Byte) : Nat := (byteAt r 22).toNat
def parBase (r : List Byte) : Word := u32At r 24
def parSize (r : List Byte) : Nat := u16At r 28
def parBoundCq (r : List Byte) : Nat := (byteAt r 21).toNat
def parQuota (r : List Byte) : Nat := (byteAt r 23).toNat
/-- The class byte: 00h NORMAL, 01h URGENT, judged whole. -/
def parClass (r : List Byte) : Option SqClass :=
  if byteAt r 22 = 0x00#8 then some .normal else if byteAt r 22 = 0x01#8 then some .urgent else none

/-- The ten settings of CONFIGURE LINE. -/
def parCfg (r : List Byte) : LineCfg :=
  { divisor := u16At r 20, stopBits := (byteAt r 22).toNat, guardTime := (byteAt r 23).toNat,
    gapLimit := (byteAt r 24).toNat, respLimit := u16At r 28, retryLimit := (byteAt r 25).toNat,
    offThresh := (byteAt r 26).toNat, probeIval := u16At r 30, busyHold := u16At r 32, quietTime := u16At r 34 }

/-- Every setting is within its range (R17). -/
def LineCfg.inRange (c : LineCfg) : Bool :=
  decide (1 ≤ c.divisor ∧ c.divisor ≤ 65535) && decide (c.stopBits = 1 ∨ c.stopBits = 2) &&
    decide (2 ≤ c.guardTime ∧ c.guardTime ≤ 255) && decide (1 ≤ c.gapLimit ∧ c.gapLimit ≤ 15) &&
    decide (100 ≤ c.respLimit ∧ c.respLimit ≤ 65535) && decide (c.retryLimit ≤ 7) &&
    decide (1 ≤ c.offThresh ∧ c.offThresh ≤ 15) && decide (10 ≤ c.probeIval ∧ c.probeIval ≤ 60000) &&
    decide (1 ≤ c.busyHold ∧ c.busyHold ≤ 2550) && decide (c.quietTime ≤ 65535)

/-- SET NODE: response limit, retry limit, offline threshold. -/
def parResp (r : List Byte) : Nat := u16At r 20
def parRetry (r : List Byte) : Nat := (byteAt r 22).toNat
def parThresh (r : List Byte) : Nat := (byteAt r 23).toNat

/-- The refusal list of R45. -/
def nodeFieldsBad (r : List Byte) : Bool :=
  decide (3 < recLine r) || !unicast (recAddress r) || decide (1 ≤ parResp r ∧ parResp r ≤ 99) ||
    !retryFieldOk (parRetry r) || decide (15 < parThresh r)

/-- ADD POLL: period, compare set, host data buffer. Reply position p is bit (p mod 8) of byte 24 + (p div 8). -/
def parPeriod (r : List Byte) : Nat := u16At r 22
def parCompare (r : List Byte) : BitVec 48 :=
  BitVec.ofNat 48 (u16At r 24 + 65536 * u16At r 26 + 4294967296 * u16At r 28)
def parPollBuffer (r : List Byte) : Word := u32At r 32

/-- ABORT: the tag to match. -/
def parAbortTag (r : List Byte) : Nat := u16At r 22

/-! ### Written registers (R190) -/

/-- POST and RELEASE: the position in bits 15 to 0 and the queue id in bits 23 to 16. -/
def regPosition (w : Word) : Nat := (w.extractLsb' 0 16).toNat
def regQueue (w : Word) : Nat := (w.extractLsb' 16 8).toNat

/-- CONTROL: enable, drain and reset requests. -/
def regEnable (w : Word) : Bool := w.getLsbD 0
def regDrain (w : Word) : Bool := w.getLsbD 1
def regReset (w : Word) : Bool := w.getLsbD 2

end Sys2Proof.Machine
end

