-- ==== Sys2Proof/WellFormed.lean ====
section
/-! DEFINITION. Well-formed commands: an access lies in the window, a record has 64 bytes and the opcode and form of its
row, a read delivers as many bytes as can have been asked for. -/

namespace Sys2Proof

open Sys2Proof.Machine

/-- A record of 64 bytes with an opcode (R187). -/
def recordOf (opcode : Byte) (r : List Byte) : Bool :=
  decide (r.length = Config.recordBytes) && recOpcode r == opcode

/-- The opcode is none of the sixteen (R155). -/
def opcodeUnknown (r : List Byte) : Bool := decide ((recOpcode r).toNat < 0x80 ∨ 0x8F < (recOpcode r).toNat)

/-- Between one and `n` bytes. -/
def dataUpTo (n : Nat) (bytes : List Byte) : Bool := decide (1 ≤ bytes.length ∧ bytes.length ≤ n)

/-- The command has a form that its row can have. -/
def Instr.wellFormed : Instr → Bool
  | .powerOn => true
  | .resetRequest => true
  | .enableRequest => true
  | .drainRequest => true
  | .post _ => true
  | .release _ => true
  | .causeAcknowledge _ => true
  | .registerWrite a => decide (a.offset < 32)
  | .fetchStart => true
  | .fetchRecordReadDone r => decide (r.length = Config.recordBytes)
  | .fetchDataReadDone bytes => dataUpTo Config.maxData bytes
  | .fetchReadError => true
  | .adminFetchStart => true
  | .adminReadError => true
  | .adminInvalidOpcode r => decide (r.length = Config.recordBytes) && opcodeUnknown r
  | .createCq r => recordOf 0x80 r
  | .deleteCq r => recordOf 0x81 r
  | .tuneCq r => recordOf 0x82 r
  | .createSq r => recordOf 0x83 r
  | .deleteSq r => recordOf 0x84 r
  | .configureLine r => recordOf 0x85 r
  | .startLine r => recordOf 0x86 r
  | .stopLineDraining r => recordOf 0x87 r && recFlags r != 0x01#8
  | .stopLineAborting r => recordOf 0x87 r && recFlags r == 0x01#8
  | .setNode r => recordOf 0x88 r
  | .removeNode r => recordOf 0x89 r
  | .readNode r => recordOf 0x8A r
  | .addPoll r => recordOf 0x8B r
  | .removePoll r => recordOf 0x8C r
  | .readPoll r => recordOf 0x8D r
  | .abortBySqAndTag r => recordOf 0x8E r && recFlags r != 0x01#8 && recFlags r != 0x02#8
  | .abortByNode r => recordOf 0x8E r && recFlags r == 0x01#8
  | .abortByLine r => recordOf 0x8E r && recFlags r == 0x02#8
  | .setNoticeQueue r => recordOf 0x8F r
  | .addPollDataReadDone (.data bytes) => dataUpTo 16 bytes
  | .addPollDataReadDone .error => true
  | .readNodeImageWriteDone _ => true
  | .readPollImageWriteDone _ => true
  | .abortComplete => true
  | .readyCommandResult => true
  | .writerBeginEntry => true
  | .pollDataWriteDone _ => true
  | .entryWriteDone => true
  | .entryWriteError => true
  | .replyDataWriteDone _ => true
  | .schedulerChoice _ => true
  | .startBitInIdle _ => true
  | .characterReceived _ _ _ => true
  | .characterSent _ _ => true
  | .missingStopBit _ => true
  | .guardTimeReached _ => true
  | .guardWaitBoundReached _ => true
  | .gapLimitPassed _ => true
  | .responseTimeout _ => true
  | .breakDetected _ => true
  | .faultRecovery _ => true
  | .broadcastQuietExpired _ => true
  | .deadlineExpired _ => true
  | .holdOffEnd _ => true
  | .probeDue _ => true
  | .probePromoted _ => true
  | .periodExpiry _ => true
  | .aggregatorTimerExpired _ => true
  | .lineEntersOff _ => true
  | .controllerStopped => true
  | .nodeRecordVacant _ => true
  | .pollEntryEmpty _ => true
  | .sqBecomesAbsent q => q != 0
  | .cqBecomesAbsent c => c != 0

end Sys2Proof
end

