-- ==== Sys2Proof/Decode.lean ====
section
/-! DEFINITION. Decoding: opcode_table.json gives no row any bits, so no word spells a command; a 64-byte record read from
SQ0 is sorted by its opcode and form (R155, R165, R173, R187). -/

namespace Sys2Proof

open Sys2Proof.Machine

/-- The command that a word spells by the table's bits: the table gives none (log entry 13). -/
def decodeTableWord (_nbits _w : Nat) : Option Instr := none

/-- The administrative command that a record read from SQ0 spells (R155, R187). A STOP LINE whose form is neither of the
two goes to the draining row and an ABORT whose form is none of the three to the first ABORT row: each of these checks
the form and refuses it (R165, R173). -/
def decodeAdmin (r : List Byte) : Instr :=
  match (recOpcode r).toNat with
  | 0x80 => .createCq r
  | 0x81 => .deleteCq r
  | 0x82 => .tuneCq r
  | 0x83 => .createSq r
  | 0x84 => .deleteSq r
  | 0x85 => .configureLine r
  | 0x86 => .startLine r
  | 0x87 => if recFlags r = 0x01#8 then .stopLineAborting r else .stopLineDraining r
  | 0x88 => .setNode r
  | 0x89 => .removeNode r
  | 0x8A => .readNode r
  | 0x8B => .addPoll r
  | 0x8C => .removePoll r
  | 0x8D => .readPoll r
  | 0x8E =>
    if recFlags r = 0x01#8 then .abortByNode r
    else if recFlags r = 0x02#8 then .abortByLine r
    else .abortBySqAndTag r
  | 0x8F => .setNoticeQueue r
  | _ => .adminInvalidOpcode r

/-- The record that an administrative command carries. -/
def Instr.adminRecord : Instr → Option (List Byte)
  | .adminInvalidOpcode r => some r
  | .createCq r => some r
  | .deleteCq r => some r
  | .tuneCq r => some r
  | .createSq r => some r
  | .deleteSq r => some r
  | .configureLine r => some r
  | .startLine r => some r
  | .stopLineDraining r => some r
  | .stopLineAborting r => some r
  | .setNode r => some r
  | .removeNode r => some r
  | .readNode r => some r
  | .addPoll r => some r
  | .removePoll r => some r
  | .readPoll r => some r
  | .abortBySqAndTag r => some r
  | .abortByNode r => some r
  | .abortByLine r => some r
  | .setNoticeQueue r => some r
  | .powerOn => none
  | .resetRequest => none
  | .enableRequest => none
  | .drainRequest => none
  | .post _ => none
  | .release _ => none
  | .causeAcknowledge _ => none
  | .registerWrite _ => none
  | .fetchStart => none
  | .fetchRecordReadDone _ => none
  | .fetchDataReadDone _ => none
  | .fetchReadError => none
  | .adminFetchStart => none
  | .adminReadError => none
  | .addPollDataReadDone _ => none
  | .readNodeImageWriteDone _ => none
  | .readPollImageWriteDone _ => none
  | .abortComplete => none
  | .readyCommandResult => none
  | .writerBeginEntry => none
  | .pollDataWriteDone _ => none
  | .entryWriteDone => none
  | .entryWriteError => none
  | .replyDataWriteDone _ => none
  | .schedulerChoice _ => none
  | .startBitInIdle _ => none
  | .characterReceived _ _ _ => none
  | .characterSent _ _ => none
  | .missingStopBit _ => none
  | .guardTimeReached _ => none
  | .guardWaitBoundReached _ => none
  | .gapLimitPassed _ => none
  | .responseTimeout _ => none
  | .breakDetected _ => none
  | .faultRecovery _ => none
  | .broadcastQuietExpired _ => none
  | .deadlineExpired _ => none
  | .holdOffEnd _ => none
  | .probeDue _ => none
  | .probePromoted _ => none
  | .periodExpiry _ => none
  | .aggregatorTimerExpired _ => none
  | .lineEntersOff _ => none
  | .controllerStopped => none
  | .nodeRecordVacant _ => none
  | .pollEntryEmpty _ => none
  | .sqBecomesAbsent _ => none
  | .cqBecomesAbsent _ => none

end Sys2Proof
end

