-- ==== Sys2Proof/Machine/Frame.lean ====
section
/-! DEFINITION. The line frame (chapter 1): characters, the check, request frames, and the judgment of a reply. -/

namespace Sys2Proof.Machine

/-- The levels of a character in the order of transmission, mark as `true` (R1): start bit, data bits 0 to 7, mark bit,
first stop bit, and the second stop bit when the line is set for two. -/
def charLevels (byte : Byte) (mark : Bool) (stopBits : Nat) : List Bool :=
  false :: (List.range 8).map byte.getLsbD ++ mark :: List.replicate stopBits true

/-- The character time in bit times: 11 with one stop bit, 12 with two (R1). -/
def charTime (stopBits : Nat) : Nat := 10 + stopBits

/-- Bit times from a start bit to the end of the first stop bit: a character as it is received (R2). -/
def rxCharBits : Nat := 11

/-- Bit times at space at the end of a character whose first stop bit is at space: the break timer's value there
(R18, R29). -/
def spaceRun (byte : Byte) (mark : Bool) : Nat :=
  1 + ((charLevels byte mark 0).reverse.takeWhile (fun b => !b)).length

/-- Bit times at mark at the end of a received character, its first stop bit included: what the wire has shown of mark
without interruption when the character ends (R1, R35). -/
def markRun (byte : Byte) (mark : Bool) : Nat := ((charLevels byte mark 1).reverse.takeWhile id).length

/-- The check register after one data bit (R10). -/
def checkBit (reg : Half) (b : Bool) : Half :=
  if reg.msb == b then reg <<< 1 else (reg <<< 1) ^^^ 0x1021#16

/-- The check register after one byte, its bits from the most significant (R10). -/
def checkByte (reg : Half) (b : Byte) : Half :=
  ([7, 6, 5, 4, 3, 2, 1, 0] : List Nat).foldl (fun r k => checkBit r (b.getLsbD k)) reg

/-- The check of a run of bytes: the register preset to FFFFh (R10). -/
def frameCheck (bytes : List Byte) : Half := bytes.foldl checkByte 0xFFFF#16

/-- The two check characters, high byte first (R11). -/
def checkChars (bytes : List Byte) : List Byte :=
  [(frameCheck bytes).extractLsb' 8 8, (frameCheck bytes).extractLsb' 0 8]

/-- The CONTROL value SEQ x 128 + DIR x 64 + FUNCTION (R4, R7). -/
def controlByte (seq dir : Bool) (code : Byte) : Byte := le8 (bit seq 7 + bit dir 6 + code.toNat % 64)

/-- ADDRESS, CONTROL, LENGTH and DATA of a frame, in order. -/
def frameBody (address control : Byte) (data : List Byte) : List Byte :=
  address :: control :: le8 data.length :: data

/-- A whole frame: the body and its check (R4, R7). -/
def frameOf (address control : Byte) (data : List Byte) : List Byte :=
  frameBody address control data ++ checkChars (frameBody address control data)

/-- The broadcast address (R5). -/
def broadcastAddr : Byte := 0xFF#8

/-- Function PROBE (R6). -/
def fnProbe : Byte := 0x00#8
/-- Function RESYNC (R6). -/
def fnResync : Byte := 0x3F#8
/-- Reply code REJECT (R8). -/
def codeReject : Byte := 0x3C#8
/-- Reply code BUSY (R8). -/
def codeBusy : Byte := 0x3D#8

/-- The request frame of an attempt; DIR is 0 in every request (R4). -/
def Attempt.frame (a : Attempt) : List Byte := frameOf a.address (controlByte a.seq false a.function) a.data

/-- A reply is expected for a frame to a single address (R19). -/
def Attempt.replyExpected (a : Attempt) : Bool := a.address != broadcastAddr

/-- The attempt is a probe: its FUNCTION is 00h (R19). -/
def Attempt.isProbe (a : Attempt) : Bool := a.function == fnProbe

/-- The start-up RESYNC of START LINE: ADDRESS FFh, SEQ 0, DIR 0, FUNCTION 3Fh, LENGTH 0 (R36). -/
def resyncFrame : List Byte := frameOf broadcastAddr (controlByte false false fnResync) []

/-- The echo compare of one character: a character was received, its byte and mark bit equal those sent, and its first
stop bit was at mark (R22). -/
def echoMatches (byte : Byte) (mark : Bool) : Echo → Bool
  | .silence => false
  | .char b m ok => b == byte && m == mark && ok

/-- LENGTH of a partly or wholly received frame. -/
def rxLength (buf : List Byte) : Nat := (byteAt buf 2).toNat

/-- The receive assembly buffer after one more character at position `count` of the frame: data characters beyond the
48th are counted and not stored (R27). -/
def rxStore (buf : List Byte) (count : Nat) (b : Byte) : List Byte :=
  if count < 3 + Config.maxData ∨ 3 + rxLength buf ≤ count then buf ++ [b] else buf

/-- The frame is complete: LENGTH + 5 characters have arrived (R27). -/
def rxComplete (buf : List Byte) (count : Nat) : Bool := decide (3 ≤ count ∧ count = rxLength buf + 5)

/-- The data bytes of a complete frame with LENGTH 48 or less. -/
def rxData (buf : List Byte) : List Byte := bytesAt buf 3 (rxLength buf)

/-- The received check agrees with the computed one (R11). -/
def rxCheckOk (buf : List Byte) : Bool := bytesAt buf (3 + rxLength buf) 2 == checkChars (buf.take (3 + rxLength buf))

/-- DIR of a received CONTROL. -/
def rxDir (buf : List Byte) : Bool := (byteAt buf 1).getLsbD 6
/-- SEQ of a received CONTROL. -/
def rxSeq (buf : List Byte) : Bool := (byteAt buf 1).getLsbD 7
/-- CODE of a received CONTROL. -/
def rxCode (buf : List Byte) : Byte := byteAt buf 1 &&& 0x3F#8

/-- How a complete frame is classified (R28). -/
inductive Verdict where
  | checkError | stale | replyOk | replyReject | replyBusy
  deriving DecidableEq, Repr

/-- A reply with a correct check is malformed: DIR 0, LENGTH above 48, or a CODE that is none of the three (R7). -/
def rxMalformed (a : Attempt) (buf : List Byte) : Bool :=
  !rxDir buf || decide (Config.maxData < rxLength buf) ||
    !(rxCode buf == a.function || rxCode buf == codeReject || rxCode buf == codeBusy)

/-- The classification of a complete frame against the request of an attempt, in the order of R28. -/
def classify (a : Attempt) (buf : List Byte) : Verdict :=
  if decide (rxLength buf ≤ Config.maxData) && !rxCheckOk buf then .checkError
  else if rxMalformed a buf then .checkError
  else if rxSeq buf != a.seq && !a.isProbe then .stale
  else if rxCode buf == a.function then .replyOk
  else if rxCode buf == codeReject then .replyReject
  else .replyBusy

/-- What a line unit reports when an attempt ends (R32): the outcome; the reply's CODE and data bytes, and its turnaround,
which mean something with an accepted reply alone; and whether any character of the request frame was sent. -/
structure Report where
  outcome : Outcome
  code    : Byte
  data    : List Byte
  turn    : Nat
  sent    : Bool
  deriving DecidableEq, Repr

/-- A report of an outcome that carries no reply, and whether a character of the request was sent. -/
def Report.plain (o : Outcome) (sent : Bool) : Report := { outcome := o, code := 0, data := [], turn := 0, sent := sent }

/-- A report of an outcome that carries no reply, after a request of which a character was sent. -/
def Report.bare (o : Outcome) : Report := Report.plain o true

/-- The reason of a REJECT: the first data byte, 00h when LENGTH is 0 (R28). -/
def Report.reason (r : Report) : Byte := r.data.headD 0

/-- The hint of a BUSY: the first data byte when LENGTH is 1 or more (R28). -/
def Report.hint (r : Report) : Option Byte := r.data.head?

/-- The report of an accepted reply (R28), with the turnaround limited to 65535 (R26). -/
def Report.ofReply (o : Outcome) (buf : List Byte) (turn : Nat) : Report :=
  { outcome := o, code := rxCode buf, data := rxData buf, turn := min 65535 turn, sent := true }

/-- TIMEOUT, CHECK_ERROR, TRUNCATED and CHAR_ERROR are silent (R50). -/
def Outcome.silent : Outcome → Bool
  | .timeout | .checkError | .truncated | .charError => true
  | _ => false

/-- The status that a retryable outcome ends in (R76), and LINE_FAULT for FAULT (R82). -/
def Outcome.status : Outcome → Status
  | .timeout => .noReply
  | .checkError => .checkError
  | .truncated => .truncated
  | .charError => .lineError
  | .clash => .clash
  | .fault => .lineFault
  | .replyOk => .ok
  | .replyReject => .rejected
  | .replyBusy => .nodeBusy

end Sys2Proof.Machine
end

