-- ==== Sys2Proof/Machine/Ops.lean ====
section
/-! DEFINITION. The named operations over the state: reading and writing one line, slot, node record, poll entry or
queue; time; the pending-notice list; the lists a slot stands on; completing a slot; withdrawing a poll entry. -/

namespace Sys2Proof.Machine

/-! ### One element of a table -/

def State.line (s : State) (l : LineId) : Line := s.lines[l]
def State.setLine (s : State) (l : LineId) (x : Line) : State := { s with lines := s.lines.set l x }
def State.modLine (s : State) (l : LineId) (f : Line → Line) : State := s.setLine l (f (s.line l))

def State.sched (s : State) (l : LineId) : Sched := s.scheds[l]
def State.setSched (s : State) (l : LineId) (x : Sched) : State := { s with scheds := s.scheds.set l x }
def State.modSched (s : State) (l : LineId) (f : Sched → Sched) : State := s.setSched l (f (s.sched l))

/-- A node record; `none` is VACANT (R41). -/
def State.node (s : State) (n : NodeId) : Option Node := s.nodes[n]
def State.setNode (s : State) (n : NodeId) (x : Option Node) : State := { s with nodes := s.nodes.set n x }
/-- Change an in-use record; a VACANT one stays VACANT. -/
def State.modNode (s : State) (n : NodeId) (f : Node → Node) : State := s.setNode n ((s.node n).map f)

/-- A transaction slot; `none` is FREE (R65). -/
def State.slot (s : State) (i : SlotId) : Option Slot := s.slots[i]
def State.setSlot (s : State) (i : SlotId) (x : Option Slot) : State := { s with slots := s.slots.set i x }
/-- Change an occupied slot; a FREE one stays FREE. -/
def State.modSlot (s : State) (i : SlotId) (f : Slot → Slot) : State := s.setSlot i ((s.slot i).map f)
/-- Change the transaction of a slot. -/
def State.modTxn (s : State) (i : SlotId) (f : Txn → Txn) : State :=
  s.modSlot i fun x => { x with txn := x.txn.map f }

/-- A poll entry; `none` is empty (R106). -/
def State.poll (s : State) (p : PollId) : Option Poll := s.polls[p]
def State.setPoll (s : State) (p : PollId) (x : Option Poll) : State := { s with polls := s.polls.set p x }
/-- Change an in-use entry; an empty one stays empty. -/
def State.modPoll (s : State) (p : PollId) (f : Poll → Poll) : State := s.setPoll p ((s.poll p).map f)

def State.sq (s : State) (q : SqId) : Sq := s.sqs[q]
def State.setSq (s : State) (q : SqId) (x : Sq) : State := { s with sqs := s.sqs.set q x }
def State.modSq (s : State) (q : SqId) (f : Sq → Sq) : State := s.setSq q (f (s.sq q))

def State.cq (s : State) (c : CqId) : Cq := s.cqs[c]
def State.setCq (s : State) (c : CqId) (x : Cq) : State := { s with cqs := s.cqs.set c x }
def State.modCq (s : State) (c : CqId) (f : Cq → Cq) : State := s.setCq c (f (s.cq c))

/-- Node indices, slot numbers and poll ids in ascending order. -/
def allNodes : List NodeId := List.finRange 128
def allSlots : List SlotId := List.finRange 32
def allPolls : List PollId := List.finRange 64

/-! ### Looking up -/

/-- The in-use record with a key (R41). -/
def State.findNode (s : State) (l : LineId) (a : Byte) : Option NodeId :=
  allNodes.find? fun n =>
    match s.node n with
    | some r => r.line == l && r.address == a
    | none => false

/-- The record of an EXCHANGE's node; none for the other kinds (R69 to R71). -/
def State.nodeOfTxn (s : State) (t : Txn) : Option NodeId :=
  match t.kind with
  | .exchange => s.findNode t.line t.address
  | _ => none

/-- The state of the record of an EXCHANGE's node, if there is one (R89). -/
def State.healthOfTxn (s : State) (t : Txn) : Option Health :=
  match s.nodeOfTxn t with
  | some n => (s.node n).map (·.health)
  | none => none

/-- The slots that are not FREE and whose source is a queue (R66, R123). -/
def State.slotsOf (s : State) (q : SqId) : List SlotId :=
  allSlots.filter fun i =>
    match s.slot i with
    | some x => x.sq == q
    | none => false

/-- Occupied slots of a queue (R123). -/
def State.occupied (s : State) (q : SqId) : Nat := (s.slotsOf q).length

/-- The line of a poll entry: its node record's line (R106). -/
def State.pollLine (s : State) (e : Poll) : Option LineId := (s.node e.node).map (·.line)

/-- The effective response limit of a record on its line (R44). -/
def Node.effResp (r : Node) (cfg : LineCfg) : Nat := if r.respLimit = 0 then cfg.respLimit else r.respLimit
/-- The effective retry limit (R44). -/
def Node.effRetry (r : Node) (cfg : LineCfg) : Nat := if r.retryLimit ≤ 7 then r.retryLimit else cfg.retryLimit
/-- The effective offline threshold (R44). -/
def Node.effThresh (r : Node) (cfg : LineCfg) : Nat := if r.offThresh = 0 then cfg.offThresh else r.offThresh

/-- UNKNOWN, ONLINE or SUSPECT: the states in which host work and polls are offered (section 3.4). -/
def Health.inService : Health → Bool
  | .unknown | .online | .suspect => true
  | _ => false

/-- An attempt of a probe of the node is in progress on a line (R47, R58). -/
def State.probing (s : State) (l : LineId) (n : NodeId) : Bool :=
  match (s.line l).attempt with
  | some a => a.owner == .probe n
  | none => false

/-- RUNNING, DRAINING or STOPPED: the states in which timer expiries and line events act on the tables (R93, R109, R178,
R180). -/
def State.live (s : State) : Bool := s.ctl == .running || s.ctl == .draining || s.ctl == .stopped

/-- RUNNING or DRAINING: the admin unit and the completion writer work (R130, R136). -/
def State.working (s : State) : Bool := s.ctl == .running || s.ctl == .draining

/-! ### Time (R2, R18, R148, R182) -/

/-- No character is in progress and the wire is at mark (R18). -/
def Line.silent (l : Line) : Bool := !l.inChar && !l.space

/-- The rest of a character that an aborting STOP LINE found being sent is still being sent, in OFF or in a STARTING that
followed (R16, R38). -/
def Line.cutSending (l : Line) : Bool := l.driver && (l.st == .off || l.st == .starting)

/-- The line is driving a character of its own: TX, the sending phase of STARTING (R22, R36), or the rest of a cut one. -/
def Line.sendingNow (l : Line) : Bool := l.st == .tx || (l.st == .starting && l.phase == .sending) || l.cutSending

/-- The wire is not known to be at mark as the line enters OFF: it stands at space, or a character from outside is in progress
on it. Log entry 5. -/
def Line.low (l : Line) : Bool := l.space || (l.inChar && !l.sendingNow)

/-- A line enters OFF with its configuration and transitions count kept and its driver released at once (R39, R40); its wire
stays as it is. -/
def Line.toOff (l : Line) : Line := Line.offWith l.cfg l.transitions l.low

/-- A line enters OFF at the end of STOP LINE (R39): a character being sent is completed, and the driver is released at its
end, by CHARACTER_SENT (R16, R38). -/
def Line.stopped (l : Line) : Line := { l.toOff with driver := l.driver }

/-- What the wire of a line in OFF shows: the line unit ignores it (R39), and START LINE finds it so (R18, R36). DESIGN
CHOICE, log entry 5. -/
def Line.wire (l : Line) (space : Bool) : Line := { l with space := space }

/-- `n` bit times pass on a line (R18). In OFF every timer is stopped. Within a character the levels are not told, and the
break timer stands; the end of its first stop bit gives the timer what the character ends in. DESIGN CHOICE, log entry 5. -/
def Line.passBits (l : Line) (n : Nat) : Line :=
  if l.st = .off then l
  else
    { l with
      guardT := if l.silent then l.guardT + n else l.guardT
      gapT := if l.silent then l.gapT + n else l.gapT
      respT := if l.st = .wait then l.respT + n else l.respT
      sinceSent := l.sinceSent + n
      breakT := if l.space then l.breakT + n else l.breakT
      markT := l.markT + n
      quietT := if l.quietOn then l.quietT + n else l.quietT
      waited := l.waited + n
      charT := if l.inChar then l.charT + n else l.charT }

/-- `n` thirds of a microsecond pass on a line; a bit time is `divisor` of them (R2). The line's bit-time measure runs free:
an edge on the wire does not restart it, so a timer set to 0 within a bit counts the rest of that bit as a whole one. The
spec says neither; DESIGN CHOICE, log entry 5. -/
def Line.pass (l : Line) (n : Nat) : Line :=
  { l.passBits ((l.bitPhase + n) / l.cfg.divisor) with
    bitPhase := if l.st = .off then l.bitPhase else (l.bitPhase + n) % l.cfg.divisor }

/-- `n` units of 100 microseconds pass for an aggregator's timer (R148). -/
def Cq.pass (c : Cq) (n : Nat) : Cq :=
  match c.timer with
  | .running e => { c with timer := .running (min 255 (e + n)) }
  | _ => c

/-- `n` thirds of a microsecond pass. The timebase runs in every controller state (R182); the aggregators are frozen in
FATAL (R151). -/
def State.pass (s : State) (n : Nat) : State :=
  { s with
    thirds := (s.thirds + n) % Config.thirdsPerMs
    ms := s.ms + BitVec.ofNat 32 ((s.thirds + n) / Config.thirdsPerMs)
    lines := #v[(s.line 0).pass n, (s.line 1).pass n, (s.line 2).pass n, (s.line 3).pass n]
    cqs :=
      if s.ctl = .fatal then s.cqs
      else
        let k := (s.thirds + n) / Config.thirdsPer100us - s.thirds / Config.thirdsPer100us
        #v[(s.cq 0).pass k, (s.cq 1).pass k, (s.cq 2).pass k, (s.cq 3).pass k] }

/-- A time of the millisecond count has been reached: counts are compared modulo 2^32 (R182). -/
def msReached (now t : Word) : Bool := decide ((now - t).toNat < 2147483648)

/-- A time a number of milliseconds from now. -/
def State.msAfter (s : State) (n : Nat) : Word := s.ms + BitVec.ofNat 32 n

/-! ### The pending-notice list (R141 to R143) -/

/-- A source becomes pending: its reference joins the tail unless it is on the list (R142). -/
def State.pend (s : State) (x : Source) : State :=
  if x ∈ s.noticeList then s else { s with noticeList := s.noticeList ++ [x] }

/-- A reference leaves the list without a notice (R143). -/
def State.unpend (s : State) (x : Source) : State :=
  { s with noticeList := s.noticeList.filter (· != x) }

/-- A node becomes pending as a notice source (R63). -/
def State.pendNode (s : State) (n : NodeId) : State := (s.modNode n fun r => { r with noticeMark := true }).pend (.node n)

/-- A submission queue becomes pending with an error code (R125, R127, R130). -/
def State.pendSq (s : State) (q : SqId) (e : QueueErr) : State :=
  (s.modSq q fun x => { x with error := some e, noticeMark := true }).pend (.sq q)

/-- A completion queue becomes pending with BAD_RELEASE (R137). -/
def State.pendCq (s : State) (c : CqId) : State :=
  (s.modCq c fun x => { x with error := some .badRelease, noticeMark := true }).pend (.cq c)

/-- A poll entry has a change pending (R115). -/
def State.pendPoll (s : State) (p : PollId) : State := (s.modPoll p fun e => { e with change := true }).pend (.poll p)

/-! ### The lists of a slot, and its completion (R55, R60, R74, R89) -/

/-- The record without a slot on its pending list, and without it as its open exchange (R55, R60). -/
def Node.dropSlot (r : Node) (i : SlotId) : Node :=
  { r with
    pendingList := r.pendingList.filter (· != i)
    openX := if r.openX = some (.slot i) then none else r.openX }

/-- A transaction leaves its list, from whatever position it holds, and releases its node's open exchange (R55, R60,
R74). -/
def State.leaveList (s : State) (i : SlotId) (t : Txn) : State :=
  match t.kind with
  | .exchange =>
    match s.findNode t.line t.address with
    | some n => s.modNode n (·.dropSlot i)
    | none => s
  | _ => s.modSched t.line fun c => { c with lineList := c.lineList.filter (· != i) }

/-- A slot enters HELD with its settled result and joins the tail of the held list of the CQ bound to its source SQ
(R89, R132). -/
def State.enterHeld (s : State) (i : SlotId) (r : Settled) : State :=
  match s.slot i with
  | none => s
  | some x =>
    (s.setSlot i (some { x with st := .held, settled := some r })).modCq (s.sq x.sq).cq fun c =>
      { c with held := c.held ++ [HeldRef.slot i] }

/-- A settled result that carries no answer: reply length 0, ABORT_LATE clear. -/
def Settled.plain (st : Status) (code : Byte) (turn : Nat) (h : Option Health) (unk : Bool) : Settled :=
  { status := st, replyLen := 0, replyCode := code, turn := turn, nodeState := h, abortLate := false, outcomeUnk := unk }

/-- A transaction completes without an answer: it leaves its list and enters HELD with a status, a reply code, a
turnaround and OUTCOME_UNKNOWN, and with its node's state at that moment (R89). -/
def State.complete (s : State) (i : SlotId) (st : Status) (code : Byte) (turn : Nat) (unk : Bool) : State :=
  match s.slot i with
  | some { txn := some t, .. } =>
    let s1 := s.leaveList i t
    s1.enterHeld i (Settled.plain st code turn (s1.healthOfTxn t) unk)
  | _ => s

/-- A slot is PENDING. -/
def State.isPending (s : State) (i : SlotId) : Bool :=
  match s.slot i with
  | some x => x.st == .pending
  | none => false

/-- A slot is ACTIVE. -/
def State.isActive (s : State) (i : SlotId) : Bool :=
  match s.slot i with
  | some x => x.st == .active
  | none => false

/-- A slot is ACTIVE with an attempt running: its result is not settled (R85). -/
def State.attemptRuns (s : State) (i : SlotId) : Bool :=
  match s.slot i with
  | some x => x.st == .active && x.settled.isNone
  | none => false

/-- A PENDING transaction completes with a status, reply length 0, reply code 0 and turnaround 0; a slot in any other
state is left as it is (R51, R83, R85, R87, R88). -/
def State.flushPending (s : State) (st : Status) (i : SlotId) : State :=
  if s.isPending i then s.complete i st 0 0 false else s

/-- An abort reaches a slot (R85): PENDING completes ABORTED, ACTIVE with an attempt running gets its abort mark, any
other state is untouched. -/
def State.abortSlot (s : State) (i : SlotId) : State :=
  if s.isPending i then s.complete i .aborted 0 0 false
  else if s.attemptRuns i then s.modTxn i fun t => { t with abortMark := true }
  else s

/-! ### Withdrawing, suspending and resuming poll entries (R116 to R118) -/

/-- The withdrawal of an entry as far as the entry itself goes (R116). -/
def Poll.withdrawn (e : Poll) : Poll :=
  { e with due := false, inst := none, baseline := false, nextDue := none }

/-- A node record without a poll entry as its open exchange (R55). -/
def Node.dropPoll (r : Node) (p : PollId) : Node :=
  { r with openX := if r.openX = some (.poll p) then none else r.openX }

/-- Withdrawal (R116): the node's open exchange becomes absent when an instance is in flight and it names the entry. -/
def State.withdraw (s : State) (p : PollId) : State :=
  match s.poll p with
  | none => s
  | some e =>
    let s1 := s.setPoll p (some e.withdrawn)
    if e.inst.isSome then s1.modNode e.node (·.dropPoll p) else s1

/-- An ACTIVE entry without the removal mark is withdrawn and enters SUSPENDED (R117). -/
def State.suspend (s : State) (p : PollId) : State :=
  match s.poll p with
  | none => s
  | some e =>
    if e.st = .active ∧ e.removal = false then
      (s.withdraw p).modPoll p fun x => { x with st := .suspended }
    else s

/-- A SUSPENDED entry without the removal mark enters ACTIVE, due at once, with an invalid baseline (R118). -/
def State.resume (s : State) (p : PollId) : State :=
  s.modPoll p fun e =>
    if e.st = .suspended ∧ e.removal = false then
      { e with st := .active, nextDue := some s.ms, baseline := false }
    else e

/-- The entries of a node, in ascending poll id. -/
def State.pollsOfNode (s : State) (n : NodeId) : List PollId :=
  allPolls.filter fun p =>
    match s.poll p with
    | some e => e.node == n
    | none => false

/-- The entries of a line, in ascending poll id. -/
def State.pollsOfLine (s : State) (l : LineId) : List PollId :=
  allPolls.filter fun p =>
    match s.poll p with
    | some e => s.pollLine e == some l
    | none => false

def State.suspendNode (s : State) (n : NodeId) : State := (s.pollsOfNode n).foldl State.suspend s
def State.suspendLine (s : State) (l : LineId) : State := (s.pollsOfLine l).foldl State.suspend s

/-- The entries of a node returned to service resume, unless the line is OFF (R118). -/
def State.resumeNode (s : State) (n : NodeId) : State :=
  match s.node n with
  | none => s
  | some r => if (s.line r.line).st = .off then s else (s.pollsOfNode n).foldl State.resume s

/-- The node of an entry is UNKNOWN, ONLINE or SUSPECT. -/
def State.pollInService (s : State) (p : PollId) : Bool :=
  match s.poll p with
  | none => false
  | some e =>
    match s.node e.node with
    | some r => r.health.inService
    | none => false

/-- The entries of a starting line resume where their node is in service (R118). -/
def State.resumeLine (s : State) (l : LineId) : State :=
  ((s.pollsOfLine l).filter fun p => s.pollInService p).foldl State.resume s

/-! ### The host port as master (R186) -/

/-- A write of the queue unit is requested; it waits behind those requested before it. -/
def State.pushWrite (s : State) (w : BusWrite) : State := { s with quWrites := s.quWrites ++ [w] }

/-! ### Waiting commands (R153) -/

/-- The command that waits on an object becomes ready. -/
def State.makeReady (s : State) (x : Source) : State :=
  { s with
    waiting := s.waiting.filter (fun w => w.obj != x)
    ready := s.ready ++ s.waiting.filter (fun w => w.obj == x) }

/-- An admin completion becomes the admin result and joins the tail of CQ0's held list (R132, R154). -/
def State.putResult (s : State) (d : AdminDone) : State :=
  ({ s with adminResult := some d }).modCq 0 fun c => { c with held := c.held ++ [HeldRef.admin] }

/-- The command in work completes: the context becomes empty (R154). -/
def State.adminDone (s : State) (tag : Nat) (st : Status) (value : Nat) (h : Option Health) : State :=
  ({ s with adminWork := none }).putResult { tag := tag, status := st, value := value, nodeState := h }

end Sys2Proof.Machine
end

