-- ==== Sys2Proof/Machine/Judge.lean ====
section
/-! DEFINITION. What the end of an attempt does to a node record, a transaction and a poll instance (chapters 3, 4
and 6): the health rules, the settling of an outcome, change detection, probes. -/

namespace Sys2Proof.Machine

/-! ### The node record (R48 to R51, R56, R57, R59, R61) -/

/-- The largest value of the success and silent-failure counts (R43). -/
def countTop : Nat := 4294967295

/-- The turnarounds of an accepted reply (R61). -/
def Node.turned (r : Node) (turn : Nat) : Node := { r with lastTurn := turn, maxTurn := max r.maxTurn turn }

/-- One more change of state among ONLINE, SUSPECT and OFFLINE (R63). -/
def Node.moved (r : Node) : Node := { r with transitions := satSucc 255 r.transitions }

/-- An answer brings the record to ONLINE: the health part of R48 and R49. In OFFLINE, where neither rule lets a
transaction or an instance run, the general sentence of R48 is taken. -/
def Node.answered (r : Node) : Node :=
  match r.health with
  | .unknown => { r with failures := 0, health := .online }
  | .online => { r with failures := 0 }
  | .suspect => { r with failures := 0, health := .online }.moved
  | .offline => { r with failures := 0, health := .online, nextProbe := none, probeDue := false, promoted := false }.moved
  | .disabled => r

/-- The entry to ONLINE from UNKNOWN or OFFLINE makes the node a notice source (R63). -/
def Health.noticesAnswer : Health → Bool
  | .unknown | .offline => true
  | _ => false

/-- An accepted REPLY_OK or REPLY_REJECT to a request that carried `reqSeq` (R48, R56, R61). -/
def Node.accept (r : Node) (reqSeq : Bool) (turn : Nat) : Node :=
  { (r.turned turn).answered with seq := !reqSeq, successes := satSucc countTop r.successes }

/-- The hold-off duration of a BUSY, in milliseconds (R57). -/
def holdOffMs (hint : Option Byte) (cfg : LineCfg) : Nat :=
  match hint with
  | none => cfg.busyHold
  | some h => if h = 0 then cfg.busyHold else h.toNat * 10

/-- An accepted REPLY_BUSY of a transaction or a poll instance, with the hold-off end it sets (R49, R57, R61). An
OFFLINE record, where it does not occur, keeps its state. -/
def Node.busy (r : Node) (turn : Nat) (holdEnd : Word) : Node :=
  let t := r.turned turn
  match r.health with
  | .disabled => t
  | .offline => { t with failures := 0, holdOffEnd := some holdEnd }
  | _ => { t.answered with holdOffEnd := some holdEnd }

/-- BUSY from UNKNOWN makes the node a notice source (R49). -/
def Health.noticesBusy : Health → Bool
  | .unknown => true
  | _ => false

/-- A silent failure takes the record OFFLINE (R50, R51). -/
def Node.goesOffline (r : Node) (thresh : Nat) : Bool :=
  r.health.inService && decide (thresh ≤ satSucc 15 r.failures)

/-- A silent failure (R50), with the fields that entry to OFFLINE sets in the record itself (R51). -/
def Node.silentFailure (r : Node) (thresh : Nat) (probeAt : Word) : Node :=
  let f := satSucc 15 r.failures
  let c := { r with silents := satSucc countTop r.silents }
  if r.goesOffline thresh then
    let o := { c with failures := f, health := Health.offline, openX := none, holdOffEnd := none, nextProbe := some probeAt,
                      probeDue := false, promoted := false }
    if r.health = .unknown then o else o.moved
  else
    match r.health with
    | .unknown => { c with failures := f, health := .suspect }
    | .online => { c with failures := f, health := .suspect }.moved
    | .suspect => { c with failures := f }
    | _ => c

/-- What the node table takes of a report of a transaction or a poll instance: an answer, a BUSY, a silent failure when
`final` says that the transaction or instance ends at this outcome, and nothing otherwise (R48 to R50). -/
def State.nodeReport (s : State) (n : NodeId) (reqSeq final : Bool) (rep : Report) : State :=
  match s.node n with
  | none => s
  | some r =>
    let cfg := (s.line r.line).cfg
    match rep.outcome with
    | .replyOk | .replyReject =>
      let s1 := s.setNode n (some (r.accept reqSeq rep.turn))
      if r.health.noticesAnswer then s1.pendNode n else s1
    | .replyBusy =>
      let s1 := s.setNode n (some (r.busy rep.turn (s.msAfter (holdOffMs rep.hint cfg))))
      if r.health.noticesBusy then s1.pendNode n else s1
    | o =>
      if o.silent && final then
        s.setNode n (some (r.silentFailure (r.effThresh cfg) (s.msAfter cfg.probeIval)))
      else s

/-- The report takes the node OFFLINE (R51). -/
def State.offlineReport (s : State) (n : NodeId) (final : Bool) (rep : Report) : Bool :=
  match s.node n with
  | none => false
  | some r => rep.outcome.silent && final && r.goesOffline (r.effThresh (s.line r.line).cfg)

/-- The rest of the entry to OFFLINE, after the completion that caused it: the flush of the pending list in list order,
the suspension of the node's polls, and the notice (R51, items 2, 4 and 6). -/
def State.offlineFlush (s : State) (n : NodeId) : State :=
  match s.node n with
  | none => s
  | some r => ((r.pendingList.foldl (fun t i => t.flushPending .nodeOffline i) s).suspendNode n).pendNode n

/-- The SEQ of every in-use record of a line becomes 0 (R56). -/
def State.zeroSeq (s : State) (l : LineId) : State :=
  allNodes.foldl (fun t n => t.modNode n fun r => if r.line = l then { r with seq := false } else r) s

/-! ### The transaction (R70, R71, R76, R77, R79 to R82) -/

/-- What an outcome does to a transaction. -/
inductive Fate where
  /-- It is answered with a normal reply (R79), or, for a BROADCAST, sent whole (R70). -/
  | answered
  /-- It is answered REJECT (R80). -/
  | rejected
  /-- It completes with a status, a reply code and a turnaround. -/
  | ends (st : Status) (code : Byte) (turn : Nat)
  /-- It is PENDING again. -/
  | again
  deriving DecidableEq, Repr

/-- The transaction with the outcome recorded (R82), and with the BUSY counted where R77 or R71 counts it. -/
def Txn.recorded (t : Txn) (rep : Report) : Txn :=
  let u := { t with lastOut := some rep.outcome }
  if rep.outcome = .replyBusy ∧ t.abortMark = false ∧ t.latePass = false ∧ t.detached = false then
    match t.kind with
    | .discover => { u with busies := 1, lastHint := rep.hint }
    | _ => { u with busies := t.busies + 1, lastHint := rep.hint.or t.lastHint }
  else u

/-- The turnaround of a completion without an answer: that of the outcome when it is REPLY_BUSY, 0 otherwise (R82). -/
def Report.busyTurn (rep : Report) : Nat := if rep.outcome = .replyBusy then rep.turn else 0

/-- Answered attempts (R76). -/
def Txn.answeredAttempts (t : Txn) : Nat := t.attempts - t.busies

/-- The decision of R82, row by row, for a transaction with the outcome already recorded. -/
def Txn.fate (t : Txn) (rep : Report) : Fate :=
  match rep.outcome with
  | .replyOk => .answered
  | .replyReject => .rejected
  | o =>
    if t.detached then .ends .nodeDisabled 0 rep.busyTurn
    else if o = .fault then .ends .lineFault 0 0
    else if t.abortMark then .ends .aborted 0 rep.busyTurn
    else if t.latePass then .ends .expired 0 rep.busyTurn
    else if o = .replyBusy then
      if t.kind = .discover ∨ t.busyLimit < t.busies then .ends .nodeBusy (t.lastHint.getD 0) rep.turn
      else .again
    else if t.answeredAttempts < t.retry.getD 0 + 1 then .again
    else .ends o.status 0 0

/-- The settled result of an answer with a normal reply (R79); a BROADCAST reports zeros (R70). -/
def Txn.answer (t : Txn) (rep : Report) (h : Option Health) : Settled :=
  match t.kind with
  | .broadcast =>
    { status := .ok, replyLen := 0, replyCode := 0, turn := 0, nodeState := h, abortLate := t.abortMark,
      outcomeUnk := false }
  | _ =>
    { status := if rep.data.length ≤ t.capacity then .ok else .dataTruncated, replyLen := rep.data.length,
      replyCode := rep.code, turn := rep.turn, nodeState := h, abortLate := t.abortMark, outcomeUnk := false }

/-- The settled result of a REJECT (R80). -/
def Txn.reject (t : Txn) (rep : Report) (h : Option Health) : Settled :=
  { status := .rejected, replyLen := 0, replyCode := rep.reason, turn := rep.turn, nodeState := h,
    abortLate := t.abortMark, outcomeUnk := false }

/-- An answered transaction: it leaves its list; with reply data to write it stays ACTIVE with its result settled and
its write is requested, else it enters HELD (R79, R81). -/
def State.answerSlot (s : State) (i : SlotId) (t : Txn) (rep : Report) : State :=
  let s1 := s.leaveList i t
  let r := t.answer rep (s1.healthOfTxn t)
  if r.replyLen = 0 ∨ t.capacity = 0 then s1.enterHeld i r
  else
    (s1.modSlot i fun x => { x with settled := some r }).pushWrite
      { addr := t.buffer, data := rep.data.take t.capacity, use := .reply i }

/-- The fate of a transaction carried out (R82). -/
def State.applyFate (s : State) (i : SlotId) (t : Txn) (rep : Report) : State :=
  match t.fate rep with
  | .answered => s.answerSlot i t rep
  | .rejected =>
    let s1 := s.leaveList i t
    s1.enterHeld i (t.reject rep (s1.healthOfTxn t))
  | .ends st code turn => s.complete i st code turn false
  | .again => s.modSlot i fun x => { x with st := .pending }

/-- A RESYNC broadcast sent whole sets the SEQ of its line's records to 0 (R23, R56). -/
def State.afterBroadcast (s : State) (t : Txn) (rep : Report) : State :=
  if t.kind = .broadcast ∧ t.function = fnResync ∧ rep.outcome = .replyOk then s.zeroSeq t.line else s

/-- The transaction ends at this outcome (R50). -/
def Txn.endsAt (t : Txn) (rep : Report) : Bool :=
  match t.fate rep with
  | .again => false
  | _ => true

/-- An attempt of a transaction ends with a report: the node table takes the outcome, the transaction's result is
decided, and entry to OFFLINE follows its completion (R51, R69, R82). -/
def State.slotReport (s : State) (i : SlotId) (reqSeq : Bool) (rep : Report) : State :=
  match s.slot i with
  | some { st := .active, txn := some t0, settled := none, .. } =>
    let t := t0.recorded rep
    let s1 := s.modTxn i fun _ => t
    match s.nodeOfTxn t with
    | none => (s1.applyFate i t rep).afterBroadcast t rep
    | some n =>
      let s2 := (s1.nodeReport n reqSeq (t.endsAt rep) rep).applyFate i t rep
      if s.offlineReport n (t.endsAt rep) rep then s2.offlineFlush n else s2
  | _ => s

/-! ### The poll instance (R112 to R116) -/

/-- The reply is a change (R114). -/
def Poll.changed (e : Poll) (data : List Byte) : Bool :=
  !e.baseline || data.length != e.stored.length ||
    (List.range data.length).any fun k => e.compare.getLsbD k && byteAt data k != byteAt e.stored k

/-- An instance that ended: marks, context and last result (R112, R113). -/
def Poll.ended (e : Poll) (result : Status) (baseline : Bool) : Poll :=
  { e with inst := none, running := false, lastResult := some result, baseline := baseline }

/-- The instance takes a further attempt after this outcome (R112). -/
def PollInst.again (k : PollInst) (o : Outcome) : Bool :=
  (o.silent || o == .clash) && decide (k.attempts < k.retry + 1)

/-- An attempt of a poll entry ends with a report (R112, R116). Where one reply brings its UNKNOWN node ONLINE and is a
change, the node becomes pending before the entry: R142 lets either be first. DESIGN CHOICE, log entry 15. -/
def State.pollReport (s : State) (p : PollId) (reqSeq : Bool) (rep : Report) : State :=
  match s.poll p with
  | none => s
  | some e =>
    let cold := { e with running := false }
    match e.inst with
    | none =>
      let s1 := (s.setPoll p (some cold)).nodeReport e.node reqSeq true rep
      if s.offlineReport e.node true rep then s1.offlineFlush e.node else s1
    | some k =>
      let k1 := { k with lastOut := some rep.outcome }
      if k.again rep.outcome then
        (s.setPoll p (some { cold with inst := some k1 })).nodeReport e.node reqSeq false rep
      else
        let s1 := s.nodeReport e.node reqSeq true rep
        let s2 := s1.modNode e.node (·.dropPoll p)
        let s3 :=
          if rep.outcome = .replyOk then
            let s4 := s2.setPoll p (some { (e.ended .ok true) with stored := rep.data })
            if e.changed rep.data then s4.pendPoll p else s4
          else s2.setPoll p (some (e.ended rep.outcome.status false))
        if s.offlineReport e.node true rep then s3.offlineFlush e.node else s3

/-! ### The probe (R59) -/

/-- The record after a probe that brings it back (R59). -/
def Node.probedBack (r : Node) (turn : Nat) : Node :=
  { (r.turned turn).moved with
    seq := false, failures := 0, nextProbe := none, health := .online, probeDue := false, promoted := false
    successes := satSucc countTop r.successes }

/-- A probe's report, or its being cut short, reaches a record (R59); it is discarded unless the record is OFFLINE
without the removal mark (R47). -/
def State.probeReport (s : State) (n : NodeId) (rep : Option Report) : State :=
  match s.node n with
  | none => s
  | some r =>
    if r.health = .offline ∧ r.removal = false then
      let later := { r with nextProbe := some (s.msAfter (s.line r.line).cfg.probeIval), probeDue := false, promoted := false }
      match rep with
      | none => s.setNode n (some later)
      | some rp =>
        match rp.outcome with
        | .replyOk | .replyReject => ((s.setNode n (some (r.probedBack rp.turn))).resumeNode n).pendNode n
        | .replyBusy => s.setNode n (some (later.turned rp.turn))
        | _ => s.setNode n (some later)
    else s

/-! ### The end of an attempt (R32, R38, R88) -/

/-- A line unit without an attempt in a state: driver released, receive buffer empty (R28, R32). -/
def Line.without (l : Line) (st : LineSt) : Line :=
  { l with st := st, attempt := none, driver := false, rxBuf := [], rxCount := 0, foreign := false, txPos := 0 }

/-- The report goes to the owner named in the attempt (R32). -/
def State.reportTo (s : State) (a : Attempt) (rep : Report) : State :=
  match a.owner with
  | .slot i => s.slotReport i a.seq rep
  | .poll p => s.pollReport p a.seq rep
  | .probe n => s.probeReport n (some rep)

/-- The attempt of a line ends with a report and the line enters a state; without an attempt nothing changes. -/
def State.endAttempt (s : State) (l : LineId) (rep : Report) (dest : LineSt) : State :=
  match (s.line l).attempt with
  | none => s
  | some a => (s.modLine l fun x => x.without dest).reportTo a rep

/-- An attempt is cut short by STOP LINE in its aborting form; `sent` says whether any character of its request was
sent (R38, R59, R88, R112). -/
def State.cutShort (s : State) (a : Attempt) (sent : Bool) : State :=
  match a.owner with
  | .slot i => if s.attemptRuns i then s.complete i .lineStopped 0 0 sent else s
  | .probe n => s.probeReport n none
  | .poll p =>
    match s.poll p with
    | none => s
    | some e =>
      if e.inst.isSome then
        (s.setPoll p (some (e.ended .lineStopped false))).modNode e.node (·.dropPoll p)
      else s.setPoll p (some { e with running := false })

end Sys2Proof.Machine
end

