-- ==== Sys2Proof/Machine/Closing.lean ====
section
/-! DEFINITION. What comes about in the step in which its condition comes to hold: a queue ABSENT, a line OFF, a record
VACANT, an entry empty, ABORT complete, a ready command's completion as the admin result (R37, R47, R121, R129, R131,
R153, R154, R174). Each of these is also a row of the table (log entry 3). -/

namespace Sys2Proof.Machine

/-- The completion writer has an entry in progress on a CQ (R131). -/
def State.writingOn (s : State) (c : CqId) : Bool :=
  match s.writer with
  | some e => e.cq == c
  | none => false

/-- A DELETING SQ with no occupied slot (R129). -/
def State.sqAbsentDue (s : State) (q : SqId) : Bool := (s.sq q).st == .deleting && s.occupied q == 0

/-- The SQ becomes ABSENT: its fields are discarded, its reference leaves the list, DELETE SQ becomes ready (R129). -/
def State.sqAbsent (s : State) (q : SqId) : State := ((s.setSq q Sq.absent).unpend (.sq q)).makeReady (.sq q)

/-- A DELETING CQ with no entry in progress on it (R131). -/
def State.cqAbsentDue (s : State) (c : CqId) : Bool := (s.cq c).st == .deleting && !s.writingOn c

/-- The CQ becomes ABSENT, its cause bit clear, its count 0 and its timer STOPPED (R131, R151, R158). -/
def State.cqAbsent (s : State) (c : CqId) : State := ((s.setCq c Cq.absent).unpend (.cq c)).makeReady (.cq c)

/-- The pending list of every node record of a line is empty, and so is the line list (R37). -/
def State.listsEmpty (s : State) (l : LineId) : Bool :=
  (s.sched l).lineList.isEmpty &&
    allNodes.all fun n =>
      match s.node n with
      | some r => r.line != l || r.pendingList.isEmpty
      | none => true

/-- IDLE, GUARD, SETTLE or FAULT (R37). -/
def LineSt.drainable : LineSt → Bool
  | .idle | .guard | .settle | .fault => true
  | _ => false

/-- A draining line meets the four conditions of R37, and enters OFF at the first moment it does (R37, R165). A transaction
whose result is settled has left its list and has no attempt, so its reply data write keeps no line from OFF. R91 has the
draining form wait for it. DESIGN CHOICE, log entry 18. -/
def State.lineOffDue (s : State) (l : LineId) : Bool :=
  (s.line l).stopRequested && (s.line l).attempt.isNone && (s.line l).st.drainable && s.listsEmpty l

/-- A line enters OFF at the end of STOP LINE: configuration and transitions count kept (R39), its ACTIVE poll entries
suspended (R117), a waiting draining command ready (R165, R166). -/
def State.lineOff (s : State) (l : LineId) : State :=
  ((s.modLine l Line.stopped).suspendLine l).makeReady (.line l)

/-- A transaction detached from a record at disabling has an attempt in progress (R47). -/
def State.detachedRuns (s : State) (r : Node) : Bool :=
  allSlots.any fun i =>
    match s.slot i with
    | some { txn := some t, st := .active, settled := none, .. } =>
      t.detached && t.kind == .exchange && t.line == r.line && t.address == r.address
    | _ => false

/-- A record with the removal mark becomes VACANT (R47). -/
def State.vacantDue (s : State) (n : NodeId) : Bool :=
  match s.node n with
  | none => false
  | some r => r.removal && r.pendingList.isEmpty && !s.probing r.line n && !s.detachedRuns r

/-- The record becomes VACANT: fields discarded, reference off the list, REMOVE NODE ready (R47). -/
def State.nodeVacant (s : State) (n : NodeId) : State := ((s.setNode n none).unpend (.node n)).makeReady (.node n)

/-- An entry with the removal mark and no attempt on the line becomes empty (R121). -/
def State.pollEmptyDue (s : State) (p : PollId) : Bool :=
  match s.poll p with
  | none => false
  | some e => e.removal && !e.running

/-- A posting whose data write runs no longer has its entry, once the entry is empty (R119, R121). -/
def Entry.dropPoll (e : Entry) (p : PollId) : Entry :=
  match e.work with
  | .pollData p' n st len gone => { e with work := .pollData p' n st len (gone || p' == p) }
  | _ => e

/-- The entry becomes empty and REMOVE POLL becomes ready (R121). -/
def State.pollEmpty (s : State) (p : PollId) : State :=
  { ((s.setPoll p none).unpend (.poll p)).makeReady (.poll p) with writer := s.writer.map (·.dropPoll p) }

/-- Close one object if its condition holds. -/
def State.closeObj (s : State) : Source → State
  | .sq q => if s.sqAbsentDue q then s.sqAbsent q else s
  | .cq c => if s.cqAbsentDue c then s.cqAbsent c else s
  | .line l => if s.lineOffDue l then s.lineOff l else s
  | .node n => if s.vacantDue n then s.nodeVacant n else s
  | .poll p => if s.pollEmptyDue p then s.pollEmpty p else s

/-- Close the objects of the waiting commands, in the order in which the commands were taken (R153). -/
def State.closeWaiting (s : State) : State := (s.waiting.map (·.obj)).foldl State.closeObj s

/-- ABORT waits on fewer slots as they leave ACTIVE, and completes with the last of them (R174). -/
def State.closeAbort (s : State) : State :=
  match s.adminWork with
  | some (.abort tag n slots) =>
    let left := slots.filter s.isActive
    if left.isEmpty then s.adminDone tag .ok n none else { s with adminWork := some (.abort tag n left) }
  | _ => s

/-- The completion of a waiting command: OK, with the number of its object (R156). -/
def WaitCmd.done (w : WaitCmd) : AdminDone :=
  let v := match w.obj with
    | .sq q => q.val
    | .cq c => c.val
    | .line l => l.val
    | .node n => n.val
    | .poll p => p.val
  { tag := w.tag, status := .ok, value := v, nodeState := none }

/-- With the context empty, the admin result absent and no record read in progress, the oldest ready command's
completion becomes the admin result (R154). -/
def State.readyResult (s : State) : State :=
  if s.adminWork = none ∧ s.adminResult = none ∧ s.adRead = none then
    match s.ready with
    | w :: rest => ({ s with ready := rest }).putResult w.done
    | [] => s
  else s

/-- What comes about in the same step, outside OFF and FATAL. -/
def State.closing (s : State) : State := if s.live then s.closeWaiting.closeAbort.readyResult else s

end Sys2Proof.Machine
end

