-- ==== Sys2Proof/Machine/Flags.lean ====
section
/-! DEFINITION. Flag bytes and codes: the flags of completion and notice records, the presence and mark bits of the
images, the numeric codes of R188, the fields of STATUS and CAUSE (R190). -/

namespace Sys2Proof.Machine

/-- The flags byte of a record: PHASE, KIND, ABORT_LATE, OUTCOME_UNKNOWN (R188). -/
def flagsByte (phase notice abortLate unknown : Bool) : Byte :=
  le8 (bit phase 0 + bit notice 1 + bit abortLate 2 + bit unknown 3)

def Status.code : Status → Byte
  | .ok => 0x00 | .dataTruncated => 0x01 | .rejected => 0x02 | .noReply => 0x03 | .checkError => 0x04
  | .truncated => 0x05 | .lineError => 0x06 | .clash => 0x07 | .lineFault => 0x08 | .nodeBusy => 0x09
  | .nodeOffline => 0x0A | .nodeDisabled => 0x0B | .unknownNode => 0x0C | .invalidField => 0x0D | .expired => 0x0E
  | .aborted => 0x0F | .lineStopped => 0x10 | .hostWriteError => 0x11 | .invalidState => 0x20 | .inUse => 0x21
  | .notFound => 0x22 | .tableFull => 0x23 | .hostReadError => 0x24

def Health.code : Health → Byte
  | .unknown => 0x01 | .online => 0x02 | .suspect => 0x03 | .offline => 0x04 | .disabled => 0x05

/-- The node state of a record; 00h for none. -/
def healthCode : Option Health → Byte
  | none => 0x00
  | some h => h.code

def errorCode : Option QueueErr → Byte
  | none => 0x00
  | some .readError => 0x01
  | some .badPost => 0x02
  | some .badRelease => 0x03

def LineSt.code : LineSt → Byte
  | .off => 0x00 | .starting => 0x01 | .idle => 0x02 | .guard => 0x03 | .tx => 0x04 | .wait => 0x05 | .rx => 0x06
  | .settle => 0x07 | .fault => 0x08

def QueueSt.code : QueueSt → Byte
  | .absent => 0x00 | .active => 0x01 | .stalled => 0x02 | .deleting => 0x03

def PollSt.code : PollSt → Byte
  | .active => 0x01 | .suspended => 0x02 | .faulted => 0x03

/-- An attempt outcome; FFh for absent. -/
def outcomeCode : Option Outcome → Byte
  | none => 0xFF
  | some .timeout => 0x01
  | some .checkError => 0x02
  | some .truncated => 0x03
  | some .charError => 0x04
  | some .clash => 0x05
  | some .fault => 0x06
  | some .replyOk => 0x07
  | some .replyReject => 0x08
  | some .replyBusy => 0x09

/-- A poll entry's last result; FFh for absent. -/
def resultCode : Option Status → Byte
  | none => 0xFF
  | some st => st.code

/-- Notice kinds (R145, R188). -/
inductive NoticeKind where
  | nodeUp | nodeDown | pollChange | pollFault | lineFault | lineRestored | queueError
  deriving DecidableEq, Repr

def NoticeKind.code : NoticeKind → Byte
  | .nodeUp => 0x01 | .nodeDown => 0x02 | .pollChange => 0x03 | .pollFault => 0x04 | .lineFault => 0x05
  | .lineRestored => 0x06 | .queueError => 0x07

/-- The kind of a node notice, from the state at the taking (R145). -/
def nodeNoticeKind : Health → NoticeKind
  | .online | .suspect => .nodeUp
  | _ => .nodeDown

/-- The kind of a line notice, from the state at the taking (R145). -/
def lineNoticeKind : LineSt → NoticeKind
  | .fault => .lineFault
  | _ => .lineRestored

/-- The open exchange byte of a node image; FFh for absent (R189). -/
def openXCode : Option OpenX → Byte
  | none => 0xFF
  | some (.slot i) => le8 i.val
  | some (.poll p) => le8 (64 + p.val)

/-- Presence and marks of a node image (R189). -/
def nodeMarks (r : Node) : Byte :=
  le8 (bit r.holdOffEnd.isSome 0 + bit r.nextProbe.isSome 1 + bit r.openX.isSome 2 + bit r.noticeMark 3 + bit r.removal 4)

/-- Marks of a poll image (R189). -/
def pollMarks (e : Poll) : Byte :=
  le8 (bit e.due 0 + bit e.inst.isSome 1 + bit e.running 2 + bit e.baseline 3 + bit e.change 4 + bit e.removal 5 +
    bit e.nextDue.isSome 6)

/-- The controller state of STATUS (R190). -/
def Ctl.code : Ctl → Nat
  | .off => 0 | .running => 1 | .draining => 2 | .stopped => 3 | .fatal => 4

/-- The fatal cause of STATUS (R190). -/
def FatalCause.code : FatalCause → Nat
  | .noCause => 0 | .completionWrite => 1 | .noticeWrite => 2

/-- STATUS: controller state, fatal cause, CONFIG_ERROR (R190). -/
def State.statusReg (s : State) : Word :=
  BitVec.ofNat 32 (s.ctl.code + 16 * s.fatalCause.code + bit s.configError 8)

/-- CAUSE: the causes of CQ0 to CQ3 and the FATAL cause (R190). -/
def State.causeReg (s : State) : Word :=
  BitVec.ofNat 32 (bit s.cqs[0].cause 0 + bit s.cqs[1].cause 1 + bit s.cqs[2].cause 2 + bit s.cqs[3].cause 3 +
    bit s.fatalIrq 31)

/-- ADMIN_SIZE: the admin SQ size in bits 12 to 0, the admin CQ size in bits 28 to 16 (R190). -/
def State.adminSizeReg (s : State) : Word := BitVec.ofNat 32 (s.adminSqSize.toNat + 65536 * s.adminCqSize.toNat)

/-- The interrupt line is asserted while any of the five causes is set (R151). -/
def State.interruptLine (s : State) : Bool :=
  s.cqs[0].cause || s.cqs[1].cause || s.cqs[2].cause || s.cqs[3].cause || s.fatalIrq

end Sys2Proof.Machine
end

