-- ==== Sys2Proof/Machine/Control.lean ====
section
/-! DEFINITION. The controller (chapter 10): resets, enabling, draining, stopping and the entry to FATAL; the position
registers POST and RELEASE and the acknowledge of CAUSE (R125, R137, R150). -/

namespace Sys2Proof.Machine

/-! ### Resets (R182) -/

/-- A line unit at its power-on value (R39); its wire stays as it is. -/
def Line.cleared (l : Line) : Line := Line.offWith LineCfg.default 0 l.low

/-- Everything at its power-on value. The commands that wait and the levels of the wires are the outside's, and no reset of
the part moves them. -/
def State.cleared (s : State) : State :=
  { State.reset with
    lines := #v[(s.line 0).cleared, (s.line 1).cleared, (s.line 2).cleared, (s.line 3).cleared], pending := s.pending }

/-- A controller reset: as power-on, but the admin geometry registers are kept (R182). -/
def State.controllerReset (s : State) : State :=
  { s.cleared with
    asqBase := s.asqBase, acqBase := s.acqBase, adminSqSize := s.adminSqSize, adminCqSize := s.adminCqSize }

/-! ### Enabling (R176, R179) -/

/-- An ACTIVE submission queue with nothing posted (R129, R140). -/
def Sq.made (base : Word) (size : Nat) (cq : CqId) (cls : SqClass) (quota : Nat) : Sq :=
  { Sq.absent with st := .active, base := base, size := size, cq := cq, cls := cls, quota := quota }

/-- An ACTIVE completion queue with nothing written (R131, R140). -/
def Cq.made (base : Word) (size : Nat) (irq : Bool) (threshold delay : Nat) : Cq :=
  { Cq.absent with st := .active, base := base, size := size, irqEnable := irq, threshold := threshold, delay := delay }

/-- A ring has 2 to 4096 positions (R123, R131, R176). -/
def sizeOk (n : Nat) : Bool := decide (2 ≤ n ∧ n ≤ 4096)

/-- The base of a ring is a multiple of its entry size. -/
def aligned (k : Nat) (w : Word) : Bool := w.toNat % k == 0

/-- The admin geometry is valid (R176). -/
def State.geometryValid (s : State) : Bool :=
  sizeOk s.adminSqSize.toNat && sizeOk s.adminCqSize.toNat && aligned 64 s.asqBase && aligned 16 s.acqBase

/-- An enable request alone (R176, R179, R184). -/
def State.enable (s : State) : State :=
  match s.ctl with
  | .off =>
    if s.geometryValid then
      let s1 := s.setSq 0 (Sq.made s.asqBase s.adminSqSize.toNat 0 .normal 0)
      let s2 := s1.setCq 0 (Cq.made s.acqBase s.adminCqSize.toNat false 1 0)
      { s2 with ctl := .running, configError := false, noticeCq := 0 }
    else { s with configError := true }
  | .draining | .stopped => { s with ctl := .running }
  | .running | .fatal => s

/-! ### Draining and stopping (R177, R178) -/

/-- A line is IDLE or OFF. -/
def LineSt.atRest : LineSt → Bool
  | .idle | .off => true
  | _ => false

def allLines : List LineId := List.finRange 4
def allCqs : List CqId := List.finRange 4
def allSqs : List SqId := List.finRange 8

/-- No bus-master write of any requester is in progress or waiting (R181). -/
def State.noWrites (s : State) : Bool := s.quWrites.isEmpty && s.adWrite.isNone && s.nuWrite.isNone

/-- The conditions of STOPPED (R178). That no write is in progress follows from the others in every reachable state, as
R178 says and R181 repeats; it is asked for here too. -/
def State.stopDue (s : State) : Bool :=
  allSlots.all (fun i => (s.slot i).isNone) && allLines.all (fun l => (s.line l).st.atRest) && s.adminWork.isNone &&
    s.adRead.isNone && s.writer.isNone && s.noWrites

/-- A poll instance still in flight is withdrawn; its entry stays ACTIVE and falls due at once (R117, R178). -/
def State.stopPoll (s : State) (p : PollId) : State :=
  match s.poll p with
  | none => s
  | some e =>
    if e.inst.isSome then (s.withdraw p).modPoll p fun x => { x with nextDue := some s.ms } else s

/-- Entry to STOPPED (R178). -/
def State.enterStopped (s : State) : State := { allPolls.foldl State.stopPoll s with ctl := .stopped }

/-- The controller enters STOPPED when it is DRAINING and the conditions hold (R178). -/
def State.stops (s : State) : State := if s.ctl = .draining ∧ s.stopDue = true then s.enterStopped else s

/-- A drain request alone (R177, R184). -/
def State.drain (s : State) : State :=
  match s.ctl with
  | .running => if s.stopDue then s.enterStopped else { s with ctl := .draining }
  | _ => s

/-! ### FATAL (R180) -/

/-- Entry to FATAL: the lines go OFF with their configuration and transitions count (R39, R40), every outstanding bus
access is abandoned, the FATAL cause is set; slots, queues, tables and lists stay as they are. -/
def State.enterFatal (s : State) (c : FatalCause) : State :=
  { s with
    ctl := .fatal, fatalCause := c, fatalIrq := true
    lines := #v[(s.line 0).toOff, (s.line 1).toOff, (s.line 2).toOff, (s.line 3).toOff]
    quRead := none, quWrites := [], adRead := none, adWrite := none, nuWrite := none }

/-! ### POST, RELEASE and CAUSE (R125, R137, R150, R185) -/

/-- A new tail for a submission queue that exists (R125). -/
def State.postTail (s : State) (q : SqId) (tail : Nat) : State :=
  match (s.sq q).st with
  | .absent | .deleting => s
  | .active | .stalled =>
    if tail < (s.sq q).size then s.modSq q fun x => { x with tail := tail }
    else (s.modSq q fun x => { x with st := .stalled }).pendSq q .badPost

/-- A write to POST (R125). -/
def State.post (s : State) (w : Word) : State :=
  if s.live then
    match asSq (regQueue w) with
    | some q => s.postTail q (regPosition w)
    | none => s
  else s

/-- The number of entries that a new head releases (R137). -/
def Cq.released (c : Cq) (head : Nat) : Nat := (head + c.size - c.head) % c.size

/-- A new head for a completion queue (R137). -/
def State.releaseHead (s : State) (c : CqId) (head : Nat) : State :=
  let d := s.cq c
  match d.st with
  | .active =>
    if head < d.size ∧ d.released head ≤ d.unreleased then
      s.modCq c fun x => { x with head := head, unreleased := x.unreleased - x.released head }
    else s.pendCq c
  | _ => s

/-- A write to RELEASE (R137). -/
def State.release (s : State) (w : Word) : State :=
  if s.live then
    match asCq (regQueue w) with
    | some c => s.releaseHead c (regPosition w)
    | none => s
  else s

/-- The acknowledge of one CQ (R150). An ABSENT CQ's aggregator is left as it is. -/
def Cq.acknowledged (c : Cq) : Cq :=
  match c.st with
  | .absent => c
  | _ => { c with cause := false, count := 0, timer := .stopped }

/-- Acknowledge a CQ when its position is written as 1. -/
def State.ackCq (s : State) (w : Word) (c : CqId) : State :=
  if w.getLsbD c.val then s.modCq c Cq.acknowledged else s

/-- A write to CAUSE; the FATAL position has no effect (R150, R151). -/
def State.acknowledge (s : State) (w : Word) : State := allCqs.foldl (fun t c => t.ackCq w c) s

end Sys2Proof.Machine
end

