-- ==== Sys2Proof/Machine/Fetch.lean ====
section
/-! DEFINITION. The fetch engine (sections 4.2 to 4.4 and 7.2) and the meanings of its commands; the beginning and the
failure of a record read of SQ0 (R130). -/

namespace Sys2Proof.Machine

/-! ### The choice of a queue (R126) -/

def hostSqs : List SqId := [1, 2, 3, 4, 5, 6, 7]

/-- The lowest-numbered FREE slot. -/
def State.freeSlot (s : State) : Option SlotId := allSlots.find? fun i => (s.slot i).isNone

/-- A host queue of a class is eligible (R126). -/
def State.eligible (s : State) (cls : SqClass) (q : SqId) : Bool :=
  let d := s.sq q
  s.ctl == .running && d.st == .active && d.cls == cls && d.head != d.tail && decide (s.occupied q < d.quota) &&
    s.freeSlot.isSome

/-- The first eligible queue of a class after a position, by id (R126). -/
def State.pickSq (s : State) (cls : SqClass) (pos : Nat) : Option SqId :=
  pickMin (fun q => ringRank 7 pos q.val) (hostSqs.filter (s.eligible cls))

/-- The queue that the fetch engine takes: an URGENT one when any is eligible (R126). -/
def State.chooseSq (s : State) : Option SqId :=
  (s.pickSq .urgent s.fetchPosU).or (s.pickSq .normal s.fetchPosN)

/-- The address of a record position: base + 64 x p, modulo 2^32 (R123). -/
def Sq.addressOf (d : Sq) (p : Nat) : Word := d.base + BitVec.ofNat 32 (64 * p)

/-- The head advances by one position, modulo size (R124). -/
def Sq.advanced (d : Sq) : Sq := { d with head := (d.head + 1) % d.size }

/-- A slot reserved in FETCHING (R67). Its tag and result come at validation. -/
def Slot.reserved (q : SqId) (cls : SqClass) : Slot :=
  { st := .fetching, sq := q, cls := cls, tag := 0, txn := none, settled := none }

/-- A fetch begins: the slot is reserved, the class's position takes the id, the record read starts (R67, R126). -/
def State.startFetch (s : State) (q : SqId) (i : SlotId) : State :=
  let d := s.sq q
  { s.setSlot i (some (Slot.reserved q d.cls)) with
    fetch := some { slot := i, sq := q, record := none }
    quRead := some { addr := d.addressOf d.head, len := Config.recordBytes }
    fetchPosU := if d.cls = .urgent then q.val else s.fetchPosU
    fetchPosN := if d.cls = .urgent then s.fetchPosN else q.val }

/-- The fetch engine's choice, when it is free (R126). -/
def State.fetchNext (s : State) : State :=
  match s.fetch, s.chooseSq, s.freeSlot with
  | none, some q, some i => s.startFetch q i
  | _, _, _ => s

/-! ### Validation (R68, R72 to R74, R86) -/

/-- The line is OFF or carries the stop-requested mark (row 3 of R72). -/
def State.lineRefuses (s : State) (l : LineId) : Bool := (s.line l).st == .off || (s.line l).stopRequested

/-- Rows 2 to 5 of R72 for an EXCHANGE, with the node state of R73. -/
def State.checkExchange (s : State) (l : LineId) (r : List Byte) : Option (Status × Option Health) :=
  match (s.findNode l (recAddress r)).bind s.node with
  | none => some (.unknownNode, none)
  | some nd =>
    if nd.removal then some (.unknownNode, none)
    else if s.lineRefuses l then some (.lineStopped, some nd.health)
    else if nd.health = .disabled then some (.nodeDisabled, some .disabled)
    else if nd.health = .offline then some (.nodeOffline, some .offline)
    else none

/-- The checks of R72, row by row: the refusal's status and node state, or none for a record that passes. -/
def State.fetchCheck (s : State) (k : Kind) (l : LineId) (r : List Byte) : Option (Status × Option Health) :=
  match k with
  | .exchange => s.checkExchange l r
  | .broadcast => if s.lineRefuses l then some (.lineStopped, none) else none
  | .discover =>
    if (s.findNode l (recAddress r)).isSome then some (.invalidField, none)
    else if s.lineRefuses l then some (.lineStopped, none)
    else none

/-- What the slot takes from a record at validation, whether it then passes its checks or not (R65, R68). -/
def State.txnOf (s : State) (k : Kind) (l : LineId) (r data : List Byte) : Txn :=
  { kind := k
    line := l
    address := match k with | .broadcast => broadcastAddr | _ => recAddress r
    function := match k with | .discover => fnProbe | _ => recFunction r
    data := match k with | .discover => [] | _ => data
    busyLimit := recBusyLimit r
    retry := if recRetryLimit r ≤ 7 then some (recRetryLimit r) else none
    deadline := if recDeadline r = 0 then none else some (s.msAfter (recDeadline r))
    buffer := recBuffer r, capacity := recCapacity r, seq := none, attempts := 0, busies := 0, lastOut := none
    lastHint := none, abortMark := false, latePass := false, detached := false }

/-- A PENDING transaction joins its list at the tail (R60, R74). -/
def State.joinList (s : State) (i : SlotId) (t : Txn) : State :=
  match t.kind with
  | .exchange =>
    match s.findNode t.line t.address with
    | some n => s.modNode n fun r => { r with pendingList := r.pendingList ++ [i] }
    | none => s
  | _ => s.modSched t.line fun c => { c with lineList := c.lineList ++ [i] }

/-- A refused record enters HELD with what the slot has taken of it (R68, R73). -/
def State.refuse (s : State) (i : SlotId) (r : List Byte) (t : Option Txn) (st : Status) (h : Option Health) : State :=
  (s.modSlot i fun x => { x with tag := recTag r, txn := t }).enterHeld i (Settled.plain st 0 0 h false)

/-- A record that passes: PENDING on its list, or ABORTED at once when its queue is DELETING (R74, R86). -/
def State.acceptRecord (s : State) (i : SlotId) (q : SqId) (r : List Byte) (t : Txn) : State :=
  let s1 := s.modSlot i fun x => { x with tag := recTag r, txn := some t }
  if (s.sq q).st = .deleting then s1.enterHeld i (Settled.plain .aborted 0 0 (s1.healthOfTxn t) false)
  else (s1.modSlot i fun x => { x with st := .pending }).joinList i t

/-- The record is checked, and refused or admitted (R72). A record whose kind or line is none leaves the slot without a
transaction (log entry 9). -/
def State.judge (s : State) (i : SlotId) (q : SqId) (r data : List Byte) : State :=
  match recKind r, asLine (recLine r) with
  | some k, some l =>
    let t := s.txnOf k l r data
    if recFieldBad r then s.refuse i r (some t) .invalidField none
    else
      match s.fetchCheck k l r with
      | some (st, h) => s.refuse i r (some t) st h
      | none => s.acceptRecord i q r t
  | _, _ => s.refuse i r none .invalidField none

/-- Every read of a fetch has succeeded: the head advances and the record is validated, in one step (R67, R127). -/
def State.validate (s : State) (f : Fetch) (r data : List Byte) : State :=
  ({ s with fetch := none, quRead := none }.modSq f.sq Sq.advanced).judge f.slot f.sq r data

/-- The slot of a fetch is in FETCHING (R67). -/
def State.fetching (s : State) (i : SlotId) : Bool :=
  match s.slot i with
  | some x => x.st == .fetching
  | none => false

/-- The record read succeeds (R67). -/
def State.recordRead (s : State) (r : List Byte) : State :=
  match s.fetch, s.quRead with
  | some { slot := i, sq := q, record := none }, some _ =>
    if s.fetching i = false then s
    else if recDataLen r = 0 then s.validate { slot := i, sq := q, record := none } r []
    else
      { s with
        fetch := some { slot := i, sq := q, record := some r }
        quRead := some { addr := recBuffer r, len := recDataLen r } }
  | _, _ => s

/-- The data read succeeds: as many bytes as were asked for (R67). -/
def State.dataRead (s : State) (bytes : List Byte) : State :=
  match s.fetch, s.quRead with
  | some { slot := i, sq := q, record := some r }, some _ =>
    if s.fetching i = false then s
    else s.validate { slot := i, sq := q, record := some r } r (bytesAt bytes 0 (recDataLen r))
  | _, _ => s

/-- What a read error does to the queue (R127). -/
def State.readErrorOn (s : State) (q : SqId) : State :=
  if (s.sq q).st = .deleting then s else (s.modSq q fun x => { x with st := .stalled }).pendSq q .readError

/-- A read of a fetch fails: the slot is FREE, the head stays (R67, R127). -/
def State.fetchFailed (s : State) : State :=
  match s.fetch, s.quRead with
  | some f, some _ =>
    if s.fetching f.slot = false then s
    else (({ s with fetch := none, quRead := none }.setSlot f.slot none).readErrorOn f.sq).closing
  | _, _ => s

/-! ### SQ0 (R130) -/

/-- The admin unit is free (R153). -/
def State.adminFree (s : State) : Bool := s.adminWork.isNone && s.adminResult.isNone && s.ready.isEmpty

/-- A record read of SQ0 may begin (R130). -/
def State.adminFetchDue (s : State) : Bool :=
  s.working && (s.sq 0).st == .active && (s.sq 0).head != (s.sq 0).tail && s.adminFree && s.adRead.isNone

/-- The record read of SQ0 begins (R130). -/
def State.adminFetch (s : State) : State :=
  if s.adminFetchDue then
    { s with adRead := some { addr := (s.sq 0).addressOf (s.sq 0).head, len := Config.recordBytes } }
  else s

/-- A record read of SQ0 is in progress: the admin unit reads and has no command in work. -/
def State.adminReading (s : State) : Bool := s.working && s.adRead.isSome && s.adminWork.isNone

/-- The record read of SQ0 fails (R130). -/
def State.adminFetchFailed (s : State) : State :=
  if s.adminReading then
    (({ s with adRead := none }.modSq 0 fun x => { x with st := .stalled }).pendSq 0 .readError).closing
  else s

/-! ### The meanings -/

/-- FETCH_START (R67, R126). -/
def execFetchStart (s : State) : Host.Outcome State Fault Refusal := .next s.fetchNext

/-- FETCH_RECORD_READ_DONE (R67, R72). -/
def execFetchRecordReadDone (r : List Byte) (s : State) : Host.Outcome State Fault Refusal := .next (s.recordRead r)

/-- FETCH_DATA_READ_DONE (R67, R72). -/
def execFetchDataReadDone (bytes : List Byte) (s : State) : Host.Outcome State Fault Refusal :=
  .next (s.dataRead bytes)

/-- FETCH_READ_ERROR (R127). -/
def execFetchReadError (s : State) : Host.Outcome State Fault Refusal := .next s.fetchFailed

/-- ADMIN_FETCH_START (R130). -/
def execAdminFetchStart (s : State) : Host.Outcome State Fault Refusal := .next s.adminFetch

/-- ADMIN_READ_ERROR (R130). -/
def execAdminReadError (s : State) : Host.Outcome State Fault Refusal := .next s.adminFetchFailed

end Sys2Proof.Machine
end

