-- ==== Sys2Proof/Machine/LineUnit.lean ====
section
/-! DEFINITION. The line unit (chapter 2): timers, sending with the echo compare, receiving, faults, the phases of
STARTING. -/

namespace Sys2Proof.Machine

/-- The gap limit in bit times (R17, R18). -/
def LineCfg.gapBits (c : LineCfg) : Nat := c.gapLimit * charTime c.stopBits
/-- The break time in bit times: 20 character times (R18). -/
def LineCfg.breakBits (c : LineCfg) : Nat := 20 * charTime c.stopBits
/-- The mark time that ends a fault, in bit times: 2 character times (R35). -/
def LineCfg.markBits (c : LineCfg) : Nat := 2 * charTime c.stopBits

/-- The line can come to be silent for the guard time by time alone: no broadcast quiet timer runs, no character is in
progress, the wire is at mark (R18). -/
def Line.guardRuns (l : Line) : Bool := !l.quietOn && l.silent

/-- The line has been silent for the guard time (R18). -/
def Line.guardReached (l : Line) : Bool := l.guardRuns && decide (l.cfg.guardTime ≤ l.guardT)

/-- TX begins with the ADDRESS character; the driver is enabled (R22). -/
def Line.enterTx (l : Line) : Line := { l with st := .tx, driver := true, txPos := 0, inChar := true, charT := 0 }

/-- The hand-over: GUARD with the attempt (R19). Where the guard time is already reached, TX follows at the same instant
(R21), by GUARD_TIME_REACHED or by the next tick before time goes on (`Line.begins`); a start bit of that instant may come
between, and restarts the guard timer (R19). DESIGN CHOICE, log entry 2. -/
def Line.take (l : Line) (a : Attempt) : Line :=
  { l with st := .guard, attempt := some a, waited := 0, txPos := 0, rxBuf := [], rxCount := 0, foreign := false }

/-- A hand-over that found the guard time reached is in TX before any time has passed (R21). -/
def Line.begins (l : Line) : Line :=
  if l.st = .guard ∧ l.attempt ≠ none ∧ l.waited = 0 ∧ l.guardReached = true then l.enterTx else l

/-- The start bit of a character (R18); in IDLE it moves the line to GUARD (R33). A start bit is a change from mark to
space, so the break timer begins at 0; of the levels after it nothing is known until the first stop bit (log entry 5). -/
def Line.startBit (l : Line) : Line :=
  { l with st := if l.st = .idle then .guard else l.st, guardT := 0, gapT := 0, breakT := 0, markT := 0, inChar := true,
           charT := 0, space := false }

/-- The end of a received character, or the return to mark after one without a stop bit, with the bit times at mark that
it ends in (R18, R35). -/
def Line.heard (l : Line) (mark : Nat) : Line :=
  { l with guardT := 0, gapT := 0, breakT := 0, markT := mark, inChar := false, space := false }

/-- The end of the first stop bit of a received character that has it at space (R18, R29): the character has ended, it is not
judged before the wire returns to mark, and the break timer has counted the bit times at space that it ends in. -/
def Line.unstopped (l : Line) (byte : Byte) (mark : Bool) : Line :=
  { l.heard 0 with space := true, breakT := spaceRun byte mark }

/-- The end of the last stop bit of a character sent, as the receiver heard it (R18, R22): the character heard ended at its
first stop bit, so a second one has been counted by the guard and gap timers as silence, and by the break and mark times.
Where nothing was heard the line was silent throughout, and the guard timer, which stands while a character is sent, has
counted it. Log entry 5. -/
def Line.echoed (l : Line) : Echo → Line
  | .silence => { l with inChar := false, guardT := l.guardT + l.charT }
  | .char b m ok =>
    let second := l.cfg.stopBits - 1
    if ok then { l.heard (markRun b m + second) with guardT := second, gapT := second }
    else { l.unstopped b m with breakT := spaceRun b m + second }

/-- The broadcast quiet timer starts at the end of the last stop bit; a quiet time of 0 expires at once (R18, R23). -/
def Line.startQuiet (l : Line) : Line :=
  if l.cfg.quietTime = 0 then { l with quietOn := false, quietT := 0, guardT := 0 }
  else { l with quietOn := true, quietT := 0 }

/-- The next character follows the last stop bit of the one before with no silence between them (R22). -/
def Line.nextChar (l : Line) : Line := { l with txPos := l.txPos + 1, inChar := true, charT := 0 }

/-- WAIT after a request to a single address sent whole, at the end of its last stop bit (R18, R22, R23, R26). -/
def Line.enterWait (l : Line) : Line :=
  { l with st := .wait, driver := false, respT := 0, sinceSent := 0, foreign := false, txPos := 0, rxBuf := [],
           rxCount := 0 }

/-- The character at the echo compare's position of a frame. -/
def Line.sending (l : Line) (frame : List Byte) : Byte := byteAt frame l.txPos

/-- The gap timer at a mismatch, before its wait for the gap limit: what it has counted since a character was heard, and 0
where none was: R15 has SETTLE wait one gap limit after the clash, R18 zeroes the timer at a character alone. DESIGN CHOICE,
log entry 5. -/
def Line.clashed (l : Line) : Echo → Line
  | .silence => { l with gapT := 0 }
  | .char .. => l

/-- CHARACTER_SENT in TX, at the end of the character's last stop bit (R22, R23): the compare is of the character up to its
first stop bit, and what follows from it, the driver's release and the end of the attempt among it, comes with the last one.
DESIGN CHOICE, log entry 5. -/
def State.txChar (s : State) (l : LineId) (a : Attempt) (echo : Echo) : State :=
  let x := s.line l
  let y := x.echoed echo
  if echoMatches (x.sending a.frame) (x.txPos == 0) echo then
    if x.txPos + 1 < a.frame.length then s.setLine l y.nextChar
    else if a.replyExpected then s.setLine l y.enterWait
    else (s.setLine l y.startQuiet).endAttempt l (Report.bare .replyOk) .guard
  else (s.setLine l (y.clashed echo)).endAttempt l (Report.bare .clash) .settle

/-- CHARACTER_SENT in the sending phase of STARTING, at the end of the character's last stop bit (R22, R36). -/
def State.resyncChar (s : State) (l : LineId) (echo : Echo) : State :=
  let x := s.line l
  let y := x.echoed echo
  if echoMatches (x.sending resyncFrame) (x.txPos == 0) echo then
    if x.txPos + 1 < resyncFrame.length then s.setLine l y.nextChar
    else
      let z := { y.startQuiet with driver := false, txPos := 0, phase := .quiet }
      (s.setLine l (if z.quietOn then z else { z with st := .guard })).zeroSeq l
  else s.setLine l { y.clashed echo with driver := false, txPos := 0, phase := .clashed }

/-- A character in WAIT (R24, R25): the response timer and the turnaround are read at its start bit. -/
def State.waitChar (s : State) (l : LineId) (a : Attempt) (byte : Byte) (mark : Bool) : State :=
  let x := s.line l
  let limit := a.respLimit.getD 0
  if mark && byte == a.address && decide (x.respT - rxCharBits ≤ limit) then
    s.setLine l { x with st := .rx, rxBuf := [byte], rxCount := 1, respT := x.respT - rxCharBits,
                         turn := x.sinceSent - rxCharBits, foreign := false }
  else if limit ≤ x.respT then s.endAttempt l (Report.bare .timeout) .guard
  else if mark then s.setLine l { x with foreign := true }
  else s

/-- The outcome that a verdict other than stale reports, with the reply where it is accepted (R28). -/
def Verdict.report (v : Verdict) (buf : List Byte) (turn : Nat) : Report :=
  match v with
  | .replyOk => Report.ofReply .replyOk buf turn
  | .replyReject => Report.ofReply .replyReject buf turn
  | .replyBusy => Report.ofReply .replyBusy buf turn
  | _ => Report.bare .checkError

/-- A complete frame is classified; a stale reply is discarded and the attempt goes on in WAIT (R28, R30). -/
def State.frameDone (s : State) (l : LineId) (a : Attempt) (buf : List Byte) : State :=
  match classify a buf with
  | .stale => s.modLine l fun x => { x with st := .wait, rxBuf := [], rxCount := 0, foreign := false }
  | v => s.endAttempt l (v.report buf (s.line l).turn) .guard

/-- A character in RX (R27). A foreign marked character returns the line to WAIT, and the response timer resumes from the
value at which it stopped, at the end of that character: its own 11 bit times, like those of the abandoned frame, are not
counted. R27 does not say whether it resumes there or at the character's start bit. DESIGN CHOICE, log entry 5. -/
def State.rxChar (s : State) (l : LineId) (a : Attempt) (byte : Byte) (mark : Bool) : State :=
  let x := s.line l
  if mark then
    if byte = a.address then
      s.setLine l { x with rxBuf := [byte], rxCount := 1, turn := x.sinceSent - rxCharBits }
    else s.setLine l { x with st := .wait, rxBuf := [], rxCount := 0, foreign := true }
  else
    let buf := rxStore x.rxBuf x.rxCount byte
    if rxComplete buf (x.rxCount + 1) then s.frameDone l a buf
    else s.setLine l { x with rxBuf := buf, rxCount := x.rxCount + 1 }

/-- A character in IDLE moves the line to GUARD (R33). -/
def Line.leavesIdle (l : Line) : Line := { l with st := if l.st = .idle then .guard else l.st }

/-- CHARACTER_RECEIVED, by line state (R21, R24, R27, R31, R33, R36, R39). One whose first stop bit is at space is judged later,
by MISSING_STOP_BIT or by the break (R29). -/
def State.receive (s : State) (l : LineId) (byte : Byte) (last : CharEnd) : State :=
  let x := s.line l
  if x.sendingNow then s
  else if x.st = .off then s.setLine l (x.wire !last.stopOk)
  else if last.stopOk = false then s.setLine l (x.unstopped byte last.mark).leavesIdle
  else
    let s1 := s.setLine l (x.heard (markRun byte last.mark))
    match x.st, x.attempt with
    | .idle, _ => s1.modLine l fun y => { y with st := .guard }
    | .wait, some a => s1.waitChar l a byte last.mark
    | .rx, some a => s1.rxChar l a byte last.mark
    | _, _ => s1

/-- A character without a stop bit, judged at the return to mark (R29). -/
def State.missingStop (s : State) (l : LineId) : State :=
  let x := s.line l
  if x.sendingNow then s
  else if x.st = .off then s.setLine l (x.wire false)
  else
    let s1 := s.setLine l (x.heard 0)
    match x.st with
    | .idle => s1.modLine l fun y => { y with st := .guard }
    | .wait => s1.endAttempt l (Report.bare .charError) .settle
    | .rx => s1.endAttempt l (Report.bare .charError) .settle
    | _ => s1

/-- A character of the current attempt's request has been sent, or is being sent and will be completed (R32, R38). -/
def Line.requestSent (l : Line) : Bool :=
  match l.st with
  | .tx | .wait | .rx => true
  | _ => false

/-- The line enters FAULT (R34): the part of it that concerns the line unit. -/
def Line.enterFault (l : Line) : Line :=
  { l.without .fault with
    attempt := l.attempt
    resyncOwed := l.st == .starting && l.phase != .quiet
    transitions := satSucc 255 l.transitions
    markT := 0, space := true, inChar := false }

/-- BREAK_DETECTED (R34). In FAULT there is nothing to enter. -/
def State.breakLine (s : State) (l : LineId) : State :=
  let x := s.line l
  if x.st = .off ∨ x.st = .fault then s
  else ((s.setLine l x.enterFault).endAttempt l (Report.plain .fault x.requestSent) .fault).pend (.line l)

/-- FAULT_RECOVERY (R35): to GUARD, or to STARTING while its RESYNC is owed. The wire is at mark. -/
def Line.recover (l : Line) : Line :=
  { l with st := if l.resyncOwed then .starting else .guard, phase := .guardWait, resyncOwed := false, guardT := 0,
           breakT := 0, inChar := false, space := false, transitions := satSucc 255 l.transitions }

/-- START LINE: OFF to STARTING, timers running from 0 (R36). Where the wire stands at space the line is not silent, and the
break timer counts from here (R18, R34); nor is it silent while a character that STOP LINE cut is still being sent (R38). -/
def Line.start (l : Line) : Line :=
  { Line.offWith l.cfg l.transitions l.space with
    st := .starting, phase := .guardWait, driver := l.driver, inChar := l.driver }

end Sys2Proof.Machine
end

