-- ==== Sys2Proof/Machine/AdminUnit.lean ====
section
/-! DEFINITION. What the administrative commands share (sections 9.1 and 9.2), and their effects on lines, node records,
poll entries and transactions (R38, R45 to R47, R53, R54, R88, R108, R121, R173). -/

namespace Sys2Proof.Machine

/-! ### Taking a command and ending it (R130, R153 to R156) -/

/-- The admin unit takes the record whose read has succeeded: SQ0's head advances past it (R130). Then `f` is the
command; what comes about in the same step follows. With no record read of SQ0 in progress nothing is taken. -/
def State.take (s : State) (f : State → State) : State :=
  if s.adminReading then (f ({ s with adRead := none }.modSq 0 Sq.advanced)).closing else s

/-- The command in work completes (R154, R156). -/
def State.finish (s : State) (r : List Byte) (st : Status) (value : Nat) (h : Option Health) : State :=
  s.adminDone (recTag r) st value h

/-- A refused command completes with its status, result value 0 and no node state, and changes nothing else (R155,
R156). -/
def State.fail (s : State) (r : List Byte) (st : Status) : State := s.finish r st 0 none

/-- The command completes OK with a result value and no node state (R156). -/
def State.done (s : State) (r : List Byte) (value : Nat) : State := s.finish r .ok value none

/-- The command waits on its object (R153). -/
def State.await (s : State) (r : List Byte) (x : Source) : State :=
  { s with waiting := s.waiting ++ [{ tag := recTag r, obj := x }] }

/-- The command completes when its object's condition already holds, and otherwise waits on it (R153, R154). -/
def State.doneOrAwait (s : State) (r : List Byte) (due : Bool) (close : State → State) (value : Nat) (x : Source) : State :=
  if due then (close s).done r value else s.await r x

/-! ### Queues (R149, R158) -/

/-- The descriptor and its aggregator after TUNE CQ (R149, R159). -/
def Cq.tuned (d : Cq) (irq : Bool) (threshold delay : Nat) : Cq :=
  let timer := match d.timer with
    | .running e => if delay ≤ e then AggTimer.expired else .running e
    | t => t
  { d with
    irqEnable := irq, threshold := threshold, delay := delay, timer := timer
    cause := d.cause || (irq && (decide (threshold ≤ d.count) || timer == .expired)) }

/-- An SQ that is not ABSENT is bound to the CQ (R158). -/
def State.bound (s : State) (c : CqId) : Bool := allSqs.any fun q => (s.sq q).st != .absent && (s.sq q).cq == c

/-- DELETE SQ aborts the transactions of the queue, in ascending slot number (R85, R161). -/
def State.abortQueue (s : State) (q : SqId) : State := (s.slotsOf q).foldl State.abortSlot s

/-! ### Lines (R38, R88, R166) -/

/-- The attempt in progress is reported cut short (R38, item 1 of R88); in TX the driver stays enabled for the rest of the
character being sent. -/
def State.cutAttempt (s : State) (l : LineId) : State :=
  match (s.line l).attempt with
  | some a => (s.modLine l fun x => { x with attempt := none }).cutShort a (s.line l).requestSent
  | none => s

/-- PENDING transactions of a list complete LINE_STOPPED, in list order (R88). -/
def State.stopList (s : State) (l : List SlotId) : State := l.foldl (fun t i => t.flushPending .lineStopped i) s

/-- The pending list of a record, when the record is on a line (item 3 of R88). -/
def State.stopNode (s : State) (l : LineId) (n : NodeId) : State :=
  match s.node n with
  | some r => if r.line = l then s.stopList r.pendingList else s
  | none => s

/-- A node record or a poll entry: what the stop of a line can set free for its removal. -/
def Source.removable : Source → Bool
  | .node _ => true
  | .poll _ => true
  | _ => false

/-- The records and entries whose removal was asked for before the draining stop of the line are closed before it:
commands that become ready in one step stand in the order in which they were taken (R153). -/
def State.closeBefore (s : State) (l : LineId) : State :=
  (((s.waiting.map (·.obj)).takeWhile (· != .line l)).filter Source.removable).foldl State.closeObj s

/-- STOP LINE in its aborting form (R38, R88, R166): the attempt, the line list, the pending lists by ascending node
index; then OFF. A transaction whose result is settled and whose reply data are being written is not reached (R88): its slot
stays ACTIVE with the line OFF, though R91 says of both forms that none is. DESIGN CHOICE, log entry 5. -/
def State.abortLine (s : State) (l : LineId) : State :=
  let s1 := s.cutAttempt l
  let s2 := s1.stopList (s1.sched l).lineList
  ((allNodes.foldl (fun t n => t.stopNode l n) s2).closeBefore l).lineOff l

/-! ### Node records (R45 to R47, R53, R54, R87) -/

/-- The lowest-numbered VACANT index (R41). -/
def State.vacantIndex (s : State) : Option NodeId := allNodes.find? fun n => (s.node n).isNone

/-- A record as SET NODE creates it (R45). -/
def Node.create (l : LineId) (r : List Byte) : Node :=
  { line := l, address := recAddress r, health := if recOption r then .disabled else .unknown, seq := false
    respLimit := parResp r, retryLimit := parRetry r, offThresh := parThresh r, failures := 0, openX := none
    holdOffEnd := none, nextProbe := none, lastTurn := 0, maxTurn := 0, successes := 0, silents := 0, pendingList := []
    noticeMark := false, transitions := 0, removal := false, probeDue := false, promoted := false }

/-- The three settings of a record that SET NODE updates (R46). -/
def Node.settings (n : Node) (r : List Byte) : Node :=
  { n with respLimit := parResp r, retryLimit := parRetry r, offThresh := parThresh r }

/-- Disabling reaches a transaction on the node's list (R53, R87). -/
def State.disableSlot (s : State) (n : NodeId) (i : SlotId) : State :=
  if s.isPending i then s.complete i .nodeDisabled 0 0 false
  else if s.attemptRuns i then (s.modTxn i fun t => { t with detached := true }).modNode n (·.dropSlot i)
  else s

/-- What disabling leaves of the record's exchange, hold-off and probe (R53). -/
def Node.released (r : Node) : Node :=
  { r with openX := none, holdOffEnd := none, nextProbe := none, probeDue := false, promoted := false }

/-- A record enters DISABLED (R53). The state changes first, so what completes here reports DISABLED. -/
def State.disableNode (s : State) (n : NodeId) : State :=
  match s.node n with
  | none => s
  | some r =>
    let s1 := s.setNode n (some { r with health := .disabled })
    ((r.pendingList.foldl (fun t i => t.disableSlot n i) s1).modNode n Node.released).suspendNode n

/-- A DISABLED record enters UNKNOWN (R54). -/
def State.enableNode (s : State) (n : NodeId) : State :=
  (s.modNode n fun r => { r with health := .unknown, seq := false, failures := 0 }).resumeNode n

/-- The enable request of SET NODE acts on a record (R46). -/
def State.requestNode (s : State) (n : NodeId) (disable : Bool) : State :=
  match s.node n with
  | none => s
  | some r =>
    if disable then if r.health = .disabled then s else s.disableNode n
    else if r.health = .disabled then s.enableNode n else s

/-- REMOVE NODE acts on the record at once (R47). -/
def State.removeMark (s : State) (n : NodeId) : State :=
  match s.node n with
  | none => s
  | some r => r.pendingList.foldl State.abortSlot (s.setNode n (some { r with removal := true }))

/-- The clear option of READ NODE (R62). -/
def Node.cleared (r : Node) : Node := { r with maxTurn := 0, successes := 0, silents := 0 }

/-- The clear is undone after a failed image write (R62). -/
def Node.restored (r : Node) (m su si : Nat) : Node :=
  { r with maxTurn := max r.maxTurn m, successes := satAdd countTop r.successes su, silents := satAdd countTop r.silents si }

/-! ### Poll entries (R108, R121) -/

/-- The first refusals of ADD POLL (R108). -/
def pollFieldsBad (r : List Byte) : Bool :=
  (asPoll (parId r)).isNone || !hostFunction (recFunction r) || decide (16 < recReqLen r) ||
    !decide (10 ≤ parPeriod r ∧ parPeriod r ≤ 65535)

/-- The in-use record with a key on a line number; none when the line does not exist. -/
def State.findKey (s : State) (r : List Byte) : Option NodeId :=
  match asLine (recLine r) with
  | some l => s.findNode l (recAddress r)
  | none => none

/-- The node of a new entry can take its polls now (R108). -/
def State.pollStartsActive (s : State) (n : NodeId) : Bool :=
  match s.node n with
  | some r => r.health.inService && (s.line r.line).st != .off
  | none => false

/-- The entry becomes in use (R108). -/
def State.makePoll (s : State) (np : NewPoll) (data : List Byte) : State :=
  let on := s.pollStartsActive np.node
  s.setPoll np.id (some
    { node := np.node, function := np.function, data := data, period := np.period, compare := np.compare
      buffer := np.buffer, st := if on then .active else .suspended, nextDue := if on then some s.ms else none
      due := false, inst := none, running := false, baseline := false, stored := [], change := false
      lastResult := none, missed := 0, removal := false })

/-- REMOVE POLL acts on the entry (R121). -/
def State.removePollMark (s : State) (p : PollId) : State :=
  ((s.withdraw p).unpend (.poll p)).modPoll p fun e => { e with change := false, removal := true }

/-! ### ABORT (R173, R174) -/

/-- The slots that are PENDING or ACTIVE and meet a form (R173). -/
def State.matched (s : State) (form : Slot → Bool) : List SlotId :=
  allSlots.filter fun i =>
    match s.slot i with
    | some x => (x.st == .pending || x.st == .active) && form x
    | none => false

/-- By SQ and tag. -/
def Slot.hasTag (x : Slot) (q : SqId) (tag : Nat) : Bool := x.sq == q && x.tag == tag

/-- By node: an EXCHANGE with the line and address. -/
def Slot.forNode (x : Slot) (l : LineId) (a : Byte) : Bool :=
  match x.txn with
  | some t => t.kind == .exchange && t.line == l && t.address == a
  | none => false

/-- By line. -/
def Slot.forLine (x : Slot) (l : LineId) : Bool :=
  match x.txn with
  | some t => t.line == l
  | none => false

/-- ABORT reaches the matched slots in ascending number and goes into its wait, which ends in the same step when none of
them is still ACTIVE (R85, R173, R174). Slots that it completes join their held list before its own result (log entry
17). -/
def State.abortMatched (s : State) (r : List Byte) (l : List SlotId) : State :=
  { l.foldl State.abortSlot s with adminWork := some (.abort (recTag r) l.length l) }

end Sys2Proof.Machine
end

