-- ==== Sys2Proof/Machine/Formats.lean ====
section
/-! DEFINITION. The records and images that the part writes to host memory (R188, R189). -/

namespace Sys2Proof.Machine

/-- The fields of a completion record but PHASE (R90, R156, R188). -/
structure Completion where
  tag       : Nat
  sq        : Nat
  status    : Status
  replyLen  : Nat
  code      : Byte
  attempts  : Nat
  busies    : Nat
  turn      : Nat
  nodeState : Option Health
  abortLate : Bool
  unknown   : Bool
  sqHead    : Nat
  deriving DecidableEq, Repr

/-- The 16 bytes of a completion record (R188). -/
def Completion.bytes (c : Completion) (phase : Bool) : List Byte :=
  le16 c.tag ++ [le8 c.sq, c.status.code, le8 c.replyLen, c.code, le8 c.attempts, le8 c.busies] ++ le16 c.turn ++
    [healthCode c.nodeState, flagsByte phase false c.abortLate c.unknown] ++ le16 c.sqHead ++ [0, 0]

/-- A notice record: kind, source fields at offsets 1 to 5, and the queue head at 12 (R188). -/
def noticeBytes (k : NoticeKind) (f1 f2 f3 f4 f5 : Byte) (head : Nat) (phase : Bool) : List Byte :=
  [k.code, f1, f2, f3, f4, f5, 0, 0, 0, 0, 0, flagsByte phase true false false] ++ le16 head ++ [0, 0]

/-- NODE_UP or NODE_DOWN (R63, R145). -/
def nodeNotice (n : NodeId) (r : Node) (phase : Bool) : List Byte :=
  noticeBytes (nodeNoticeKind r.health) (le8 n.val) (le8 r.line.val) r.address r.health.code (le8 r.transitions) 0 phase

/-- LINE_FAULT or LINE_RESTORED (R35, R145). -/
def lineNotice (l : LineId) (x : Line) (phase : Bool) : List Byte :=
  noticeBytes (lineNoticeKind x.st) (le8 l.val) x.st.code (le8 x.transitions) 0 0 0 phase

/-- QUEUE_ERROR of a submission queue (R145). -/
def sqNotice (q : SqId) (x : Sq) (phase : Bool) : List Byte :=
  noticeBytes .queueError (le8 q.val) 0 (errorCode x.error) x.st.code 0 x.head phase

/-- QUEUE_ERROR of a completion queue (R145). -/
def cqNotice (c : CqId) (x : Cq) (phase : Bool) : List Byte :=
  noticeBytes .queueError (le8 c.val) 1 (errorCode x.error) x.st.code 0 x.head phase

/-- POLL_CHANGE with the copied reply length (R119, R145). -/
def pollChangeNotice (p : PollId) (node : NodeId) (st : PollSt) (len : Nat) (phase : Bool) : List Byte :=
  noticeBytes .pollChange (le8 p.val) (le8 node.val) st.code (le8 len) 0 0 phase

/-- POLL_FAULT with the copied reply length (R119, R145). R188 assigns the byte at offset 4 to both kinds of poll notice
(DEDUCED, log entry 6). -/
def pollFaultNotice (p : PollId) (node : NodeId) (len : Nat) (phase : Bool) : List Byte :=
  noticeBytes .pollFault (le8 p.val) (le8 node.val) PollSt.faulted.code (le8 len) 0 0 phase

/-- A 32-bit time; 0 when absent (R189). -/
def timeBytes (t : Option Word) : List Byte := le32 (t.getD 0).toNat

/-- The 68-byte node image (R189). -/
def nodeImage (n : NodeId) (r : Node) : List Byte :=
  [le8 n.val, le8 r.line.val, r.address, r.health.code, le8 (bit r.seq 0), le8 r.retryLimit, le8 r.offThresh,
    le8 r.failures] ++ le16 r.respLimit ++
  [nodeMarks r, openXCode r.openX, le8 r.transitions, le8 r.pendingList.length, 0, 0] ++
  timeBytes r.holdOffEnd ++ timeBytes r.nextProbe ++ le16 r.lastTurn ++ le16 r.maxTurn ++ le32 r.successes ++
  le32 r.silents ++ padTo 32 0xFF (r.pendingList.map fun i => le8 i.val)

/-- The instance bytes of a poll image: attempts made, SEQ, retry limit, last outcome (R189). -/
def instBytes : Option PollInst → List Byte
  | none => [0, 0, 0, 0xFF]
  | some k => [le8 k.attempts, le8 (bit k.seq 0), le8 k.retry, outcomeCode k.lastOut]

/-- The 96-byte poll image (R189). -/
def pollImage (p : PollId) (e : Poll) : List Byte :=
  [le8 p.val, le8 e.node.val, e.function, le8 e.data.length, e.st.code, pollMarks e, resultCode e.lastResult,
    le8 e.missed] ++ le16 e.period ++ [le8 e.stored.length] ++ instBytes e.inst ++ [0] ++
  timeBytes e.nextDue ++ le32 e.buffer.toNat ++
  (le32 (e.compare.toNat % 4294967296) ++ le16 (e.compare.toNat / 4294967296)) ++ [0, 0] ++
  padTo 16 0 e.data ++ padTo 48 0 e.stored

end Sys2Proof.Machine
end

