-- ==== Sys2Proof/Machine/Admin.lean ====
section
/-! DEFINITION. The meanings of the administrative commands and of what ends them later (chapter 9). Each checks in the
order of its rule; the first check that fails gives the status (R155). -/

namespace Sys2Proof.Machine

/-- ADMIN_INVALID_OPCODE (R155). -/
def execAdminInvalidOpcode (r : List Byte) (s : State) : Host.Outcome State Fault Refusal :=
  .next (s.take fun t => t.fail r .invalidField)

/-! ### Queues (section 9.3) -/

/-- CREATE CQ (R157). -/
def State.createCq (s : State) (r : List Byte) : State :=
  match asCq (parId r) with
  | none => s.fail r .invalidField
  | some c =>
    if c = 0 ∨ sizeOk (parSize r) = false ∨ aligned 16 (parBase r) = false ∨ parThreshold r = 0 then
      s.fail r .invalidField
    else if (s.cq c).st ≠ .absent then s.fail r .invalidState
    else
      (s.setCq c (Cq.made (parBase r) (parSize r) (recOption r) (parThreshold r) (parDelay r))).done r c.val

def execCreateCq (r : List Byte) (s : State) : Host.Outcome State Fault Refusal := .next (s.take (·.createCq r))

/-- DELETE CQ (R158). -/
def State.deleteCq (s : State) (r : List Byte) : State :=
  match asCq (parId r) with
  | none => s.fail r .invalidField
  | some c =>
    if c = 0 then s.fail r .invalidField
    else if (s.cq c).st = .absent then s.fail r .notFound
    else if (s.cq c).st = .deleting then s.fail r .invalidState
    else if s.bound c then s.fail r .inUse
    else if s.noticeCq = c then s.fail r .inUse
    else
      let s1 := s.modCq c fun d => { d with st := .deleting }
      s1.doneOrAwait r (s1.cqAbsentDue c) (·.cqAbsent c) c.val (.cq c)

def execDeleteCq (r : List Byte) (s : State) : Host.Outcome State Fault Refusal := .next (s.take (·.deleteCq r))

/-- TUNE CQ (R149, R159). -/
def State.tuneCq (s : State) (r : List Byte) : State :=
  match asCq (parId r) with
  | none => s.fail r .invalidField
  | some c =>
    if parThreshold r = 0 then s.fail r .invalidField
    else if (s.cq c).st = .absent then s.fail r .notFound
    else if (s.cq c).st = .deleting then s.fail r .invalidState
    else (s.modCq c (·.tuned (recOption r) (parThreshold r) (parDelay r))).done r c.val

def execTuneCq (r : List Byte) (s : State) : Host.Outcome State Fault Refusal := .next (s.take (·.tuneCq r))

/-- CREATE SQ (R129, R160). -/
def State.createSq (s : State) (r : List Byte) : State :=
  match asSq (parId r), asCq (parBoundCq r), parClass r with
  | some q, some c, some cls =>
    if q = 0 ∨ aligned 64 (parBase r) = false ∨ sizeOk (parSize r) = false ∨ parQuota r = 0 ∨ 32 < parQuota r then
      s.fail r .invalidField
    else if (s.sq q).st ≠ .absent then s.fail r .invalidState
    else if (s.cq c).st = .absent then s.fail r .notFound
    else if (s.cq c).st = .deleting then s.fail r .invalidState
    else (s.setSq q (Sq.made (parBase r) (parSize r) c cls (parQuota r))).done r q.val
  | _, _, _ => s.fail r .invalidField

def execCreateSq (r : List Byte) (s : State) : Host.Outcome State Fault Refusal := .next (s.take (·.createSq r))

/-- DELETE SQ (R85, R86, R161). -/
def State.deleteSq (s : State) (r : List Byte) : State :=
  match asSq (parId r) with
  | none => s.fail r .invalidField
  | some q =>
    if q = 0 then s.fail r .invalidField
    else if (s.sq q).st = .absent then s.fail r .notFound
    else if (s.sq q).st = .deleting then s.fail r .invalidState
    else
      let s1 := (s.modSq q fun d => { d with st := .deleting }).abortQueue q
      s1.doneOrAwait r (s1.sqAbsentDue q) (·.sqAbsent q) q.val (.sq q)

def execDeleteSq (r : List Byte) (s : State) : Host.Outcome State Fault Refusal := .next (s.take (·.deleteSq r))

/-- SET NOTICE QUEUE (R147, R162). -/
def State.setNoticeQueue (s : State) (r : List Byte) : State :=
  match asCq (parId r) with
  | none => s.fail r .invalidField
  | some c =>
    if (s.cq c).st = .absent then s.fail r .notFound
    else if (s.cq c).st = .deleting then s.fail r .invalidState
    else { s with noticeCq := c }.done r c.val

def execSetNoticeQueue (r : List Byte) (s : State) : Host.Outcome State Fault Refusal :=
  .next (s.take (·.setNoticeQueue r))

/-! ### Lines (section 9.4) -/

/-- CONFIGURE LINE (R17, R163). -/
def State.configureLine (s : State) (r : List Byte) : State :=
  match asLine (recLine r) with
  | none => s.fail r .invalidField
  | some l =>
    if (parCfg r).inRange = false then s.fail r .invalidField
    else if (s.line l).st ≠ .off then s.fail r .invalidState
    else (s.modLine l fun x => { x with cfg := parCfg r }).done r l.val

def execConfigureLine (r : List Byte) (s : State) : Host.Outcome State Fault Refusal :=
  .next (s.take (·.configureLine r))

/-- START LINE (R36, R118, R164). -/
def State.startLine (s : State) (r : List Byte) : State :=
  match asLine (recLine r) with
  | none => s.fail r .invalidField
  | some l =>
    if (s.line l).st ≠ .off then s.fail r .invalidState
    else ((s.modLine l Line.start).resumeLine l).done r l.val

def execStartLine (r : List Byte) (s : State) : Host.Outcome State Fault Refusal := .next (s.take (·.startLine r))

/-- STOP LINE in its draining form, and in a form that is none (R37, R165). -/
def State.stopDraining (s : State) (r : List Byte) : State :=
  match asLine (recLine r) with
  | none => s.fail r .invalidField
  | some l =>
    if recFlags r ≠ 0 then s.fail r .invalidField
    else if (s.line l).st = .off then s.fail r .invalidState
    else if (s.line l).stopRequested then s.fail r .invalidState
    else
      let s1 := s.modLine l fun x => { x with stopRequested := true }
      s1.doneOrAwait r (s1.lineOffDue l) (·.lineOff l) l.val (.line l)

def execStopLineDraining (r : List Byte) (s : State) : Host.Outcome State Fault Refusal :=
  .next (s.take (·.stopDraining r))

/-- STOP LINE in its aborting form (R38, R88, R165, R166). Slots that complete in the step of the command join CQ0's held
list, where their SQ is bound to CQ0, before the command's own result; R132 gives no order between the two. DESIGN CHOICE,
log entry 17. -/
def State.stopAborting (s : State) (r : List Byte) : State :=
  match asLine (recLine r) with
  | none => s.fail r .invalidField
  | some l =>
    if (s.line l).st = .off then s.fail r .invalidState
    else (s.abortLine l).done r l.val

def execStopLineAborting (r : List Byte) (s : State) : Host.Outcome State Fault Refusal :=
  .next (s.take (·.stopAborting r))

/-! ### Nodes (section 9.5) -/

/-- The completion of SET NODE: the index and the record's state after the command (R156, R167). -/
def State.doneNode (s : State) (r : List Byte) (n : NodeId) : State :=
  s.finish r .ok n.val ((s.node n).map (·.health))

/-- SET NODE (R42, R45, R46, R167). Slots that a disabling completes join CQ0's held list, where their SQ is bound to CQ0,
before the command's own result; R132 gives no order between the two. DESIGN CHOICE, log entry 17. -/
def State.setNodeCmd (s : State) (r : List Byte) : State :=
  match nodeFieldsBad r, asLine (recLine r) with
  | false, some l =>
    match s.findNode l (recAddress r) with
    | some n =>
      if ((s.node n).map (·.removal)).getD false then s.fail r .invalidState
      else ((s.modNode n (·.settings r)).requestNode n (recOption r)).doneNode r n
    | none =>
      match s.vacantIndex with
      | some n => (s.setNode n (some (Node.create l r))).doneNode r n
      | none => s.fail r .tableFull
  | _, _ => s.fail r .invalidField

def execSetNode (r : List Byte) (s : State) : Host.Outcome State Fault Refusal := .next (s.take (·.setNodeCmd r))

/-- REMOVE NODE (R47, R168). Slots that it completes join their held list before its own result (log entry 17). -/
def State.removeNodeCmd (s : State) (r : List Byte) : State :=
  match asLine (recLine r), unicast (recAddress r) with
  | some l, true =>
    match s.findNode l (recAddress r) with
    | none => s.fail r .notFound
    | some n =>
      if ((s.node n).map (·.removal)).getD false then s.fail r .invalidState
      else if (s.pollsOfNode n).isEmpty = false then s.fail r .inUse
      else
        let s1 := s.removeMark n
        s1.doneOrAwait r (s1.vacantDue n) (·.nodeVacant n) n.val (.node n)
  | _, _ => s.fail r .invalidField

def execRemoveNode (r : List Byte) (s : State) : Host.Outcome State Fault Refusal :=
  .next (s.take (·.removeNodeCmd r))

/-- READ NODE goes into work with its image write (R62, R169). -/
def State.imageNode (s : State) (r : List Byte) (n : NodeId) (x : Node) : State :=
  let clear := recOption r
  { s.setNode n (some (if clear then x.cleared else x)) with
    adWrite := some { addr := recBuffer r, data := nodeImage n x, use := .image }
    adminWork := some (.readNode (recTag r) n x.health
      (if clear then some (x.maxTurn, x.successes, x.silents) else none)) }

/-- READ NODE (R62, R169). -/
def State.readNodeCmd (s : State) (r : List Byte) : State :=
  match asLine (recLine r), unicast (recAddress r) with
  | some l, true =>
    match s.findNode l (recAddress r) with
    | none => s.fail r .notFound
    | some n =>
      match s.node n with
      | some x => s.imageNode r n x
      | none => s.fail r .notFound
  | _, _ => s.fail r .invalidField

def execReadNode (r : List Byte) (s : State) : Host.Outcome State Fault Refusal := .next (s.take (·.readNodeCmd r))

/-! ### Polls (section 9.6) -/

/-- The parameters of an ADD POLL that has passed its checks. -/
def newPoll (r : List Byte) (p : PollId) (n : NodeId) : NewPoll :=
  { id := p, node := n, function := recFunction r, reqLen := recReqLen r, period := parPeriod r, compare := parCompare r
    buffer := parPollBuffer r }

/-- ADD POLL (R108, R170). -/
def State.addPollCmd (s : State) (r : List Byte) : State :=
  match pollFieldsBad r, asPoll (parId r) with
  | false, some p =>
    if (s.poll p).isSome then s.fail r .inUse
    else
      match s.findKey r with
      | none => s.fail r .notFound
      | some n =>
        if ((s.node n).map (·.removal)).getD true then s.fail r .notFound
        else if recReqLen r = 0 then (s.makePoll (newPoll r p n) []).done r p.val
        else
          { s with
            adRead := some { addr := recBuffer r, len := recReqLen r }
            adminWork := some (.addPoll (recTag r) (newPoll r p n)) }
  | _, _ => s.fail r .invalidField

def execAddPoll (r : List Byte) (s : State) : Host.Outcome State Fault Refusal := .next (s.take (·.addPollCmd r))

/-- REMOVE POLL (R121, R171). -/
def State.removePollCmd (s : State) (r : List Byte) : State :=
  match asPoll (parId r) with
  | none => s.fail r .invalidField
  | some p =>
    if ((s.poll p).map (·.removal)).getD true then s.fail r .notFound
    else
      let s1 := s.removePollMark p
      s1.doneOrAwait r (s1.pollEmptyDue p) (·.pollEmpty p) p.val (.poll p)

def execRemovePoll (r : List Byte) (s : State) : Host.Outcome State Fault Refusal :=
  .next (s.take (·.removePollCmd r))

/-- READ POLL goes into work with its image write; the missed count is cleared (R120, R172). -/
def State.imagePoll (s : State) (r : List Byte) (p : PollId) (e : Poll) : State :=
  { s.setPoll p (some { e with missed := 0 }) with
    adWrite := some { addr := recBuffer r, data := pollImage p e, use := .image }
    adminWork := some (.readPoll (recTag r) p e.missed) }

/-- READ POLL (R120, R172). -/
def State.readPollCmd (s : State) (r : List Byte) : State :=
  match asPoll (parId r) with
  | none => s.fail r .invalidField
  | some p =>
    match s.poll p with
    | none => s.fail r .notFound
    | some e => s.imagePoll r p e

def execReadPoll (r : List Byte) (s : State) : Host.Outcome State Fault Refusal := .next (s.take (·.readPollCmd r))

/-! ### ABORT (section 9.7) -/

/-- ABORT by SQ and tag, and in a form that is none of the three (R173). -/
def State.abortTag (s : State) (r : List Byte) : State :=
  match recFlags r == 0, asSq (parId r) with
  | true, some q =>
    if q = 0 then s.fail r .invalidField else s.abortMatched r (s.matched (·.hasTag q (parAbortTag r)))
  | _, _ => s.fail r .invalidField

def execAbortBySqAndTag (r : List Byte) (s : State) : Host.Outcome State Fault Refusal := .next (s.take (·.abortTag r))

/-- ABORT by node (R173). -/
def State.abortNode (s : State) (r : List Byte) : State :=
  match asLine (recLine r), unicast (recAddress r) with
  | some l, true => s.abortMatched r (s.matched (·.forNode l (recAddress r)))
  | _, _ => s.fail r .invalidField

def execAbortByNode (r : List Byte) (s : State) : Host.Outcome State Fault Refusal := .next (s.take (·.abortNode r))

/-- ABORT by line (R173). -/
def State.abortOnLine (s : State) (r : List Byte) : State :=
  match asLine (recLine r) with
  | some l => s.abortMatched r (s.matched (·.forLine l))
  | none => s.fail r .invalidField

def execAbortByLine (r : List Byte) (s : State) : Host.Outcome State Fault Refusal := .next (s.take (·.abortOnLine r))

/-! ### What ends a command later -/

/-- The data read of ADD POLL ends (R170). -/
def State.addPollRead (s : State) (a : ReadAnswer) : State :=
  match s.adminWork, s.adRead with
  | some (.addPoll tag np), some _ =>
    let s1 := { s with adRead := none }
    match a with
    | .data bytes => ((s1.makePoll np (bytesAt bytes 0 np.reqLen)).adminDone tag .ok np.id.val none).closing
    | .error => (s1.adminDone tag .hostReadError np.id.val none).closing
  | _, _ => s

def execAddPollDataReadDone (answer : ReadAnswer) (s : State) : Host.Outcome State Fault Refusal :=
  .next (s.addPollRead answer)

/-- The status of an image write. -/
def imageStatus : WriteAnswer → Status
  | .accepted => .ok
  | .error => .hostWriteError

/-- The clear of READ NODE is undone when the write failed (R62). -/
def State.undoNode (s : State) (a : WriteAnswer) (n : NodeId) (cleared : Option (Nat × Nat × Nat)) : State :=
  match a, cleared with
  | .error, some (m, su, si) => s.modNode n (·.restored m su si)
  | _, _ => s

/-- The image write of READ NODE ends (R62, R169). -/
def State.nodeImageWritten (s : State) (a : WriteAnswer) : State :=
  match s.adminWork, s.adWrite with
  | some (.readNode tag n h cleared), some _ =>
    (({ s with adWrite := none }.undoNode a n cleared).adminDone tag (imageStatus a) n.val (some h)).closing
  | _, _ => s

def execReadNodeImageWriteDone (answer : WriteAnswer) (s : State) : Host.Outcome State Fault Refusal :=
  .next (s.nodeImageWritten answer)

/-- The missed count cleared by READ POLL is added back when the write failed (R120). -/
def State.undoPoll (s : State) (a : WriteAnswer) (p : PollId) (missed : Nat) : State :=
  match a with
  | .error => s.modPoll p fun e => { e with missed := satAdd 255 e.missed missed }
  | .accepted => s

/-- The image write of READ POLL ends (R120, R172). -/
def State.pollImageWritten (s : State) (a : WriteAnswer) : State :=
  match s.adminWork, s.adWrite with
  | some (.readPoll tag p missed), some _ =>
    (({ s with adWrite := none }.undoPoll a p missed).adminDone tag (imageStatus a) p.val none).closing
  | _, _ => s

def execReadPollImageWriteDone (answer : WriteAnswer) (s : State) : Host.Outcome State Fault Refusal :=
  .next (s.pollImageWritten answer)

/-- ABORT completes with the last slot it matched; a ready command that waited for it follows when it may (R154,
R174). -/
def State.abortEnds (s : State) : State := if s.live then s.closeAbort.readyResult else s

def execAbortComplete (s : State) : Host.Outcome State Fault Refusal := .next s.abortEnds

/-- The oldest ready command's completion becomes the admin result (R154). -/
def State.readyEnds (s : State) : State := if s.live then s.readyResult else s

def execReadyCommandResult (s : State) : Host.Outcome State Fault Refusal := .next s.readyEnds

end Sys2Proof.Machine
end

