-- ==== Sys2Proof/Machine/Derived.lean ====
section
/-! DEFINITION. The meanings of the rows that say that a condition has come to hold. What such a row does is done in the
step in which the condition comes to hold (log entry 3), so the row as a command finds it done, and changes something
only where the condition holds and nothing has been done. CONTROLLER_STOPPED is a step of its own (R178). -/

namespace Sys2Proof.Machine

/-- The object's condition holds, and what follows from it comes about. -/
def State.settle (s : State) (x : Source) : State := if s.live then (s.closeObj x).readyResult else s

/-- LINE_ENTERS_OFF (R37, R117, R165). -/
def execLineEntersOff (line : LineId) (s : State) : Host.Outcome State Fault Refusal := .next (s.settle (.line line))

/-- CONTROLLER_STOPPED (R178). -/
def execControllerStopped (s : State) : Host.Outcome State Fault Refusal := .next s.stops

/-- NODE_RECORD_VACANT (R47, R168). -/
def execNodeRecordVacant (node : NodeId) (s : State) : Host.Outcome State Fault Refusal := .next (s.settle (.node node))

/-- POLL_ENTRY_EMPTY (R121, R171). -/
def execPollEntryEmpty (poll : PollId) (s : State) : Host.Outcome State Fault Refusal := .next (s.settle (.poll poll))

/-- SQ_BECOMES_ABSENT (R129, R161). -/
def execSqBecomesAbsent (sq : SqId) (s : State) : Host.Outcome State Fault Refusal := .next (s.settle (.sq sq))

/-- CQ_BECOMES_ABSENT (R131, R158). -/
def execCqBecomesAbsent (cq : CqId) (s : State) : Host.Outcome State Fault Refusal := .next (s.settle (.cq cq))

end Sys2Proof.Machine
end

