-- ==== Sys2Proof/Machine/HostPort.lean ====
section
/-! DEFINITION. The meanings of power-on and of the target accesses to the register window (R182 to R185, R190). -/

namespace Sys2Proof.Machine

/-- A write to CONTROL, by the requests it carries (R184). -/
def State.control (s : State) (w : Word) : State :=
  if regReset w then s.controllerReset
  else if regEnable w && !regDrain w then s.enable
  else if regDrain w && !regEnable w then s.drain
  else s

/-- A read of a register (R183, R185, R190). CONTROL, POST and RELEASE read 0. -/
def State.readReg (s : State) (offset : Nat) : Word :=
  match offset with
  | 4 => s.statusReg
  | 8 => s.asqBase
  | 12 => s.acqBase
  | 16 => s.adminSizeReg
  | 28 => s.causeReg
  | _ => 0

/-- A write to a register (R183 to R185, R190). The three geometry registers are written in OFF alone; a write to STATUS
is ignored. -/
def State.writeReg (s : State) (offset : Nat) (w : Word) : State :=
  match offset with
  | 0 => s.control w
  | 8 => if s.ctl = .off then { s with asqBase := w } else s
  | 12 => if s.ctl = .off then { s with acqBase := w } else s
  | 16 =>
    if s.ctl = .off then { s with adminSqSize := w.extractLsb' 0 13, adminCqSize := w.extractLsb' 16 13 } else s
  | 20 => s.post w
  | 24 => s.release w
  | 28 => s.acknowledge w
  | _ => s

/-- The host port answers an accepted write. -/
def State.accepted (s : State) : State := { s with answer := .written }

/-- A target access (R183). One outside the window is not addressed to the part (WellFormed). -/
def State.access (s : State) (a : Access) : State :=
  if 32 ≤ a.offset then s
  else if a.width ≠ .bits32 ∨ a.offset % 4 ≠ 0 then { s with answer := .busError }
  else if a.write then (s.writeReg a.offset a.value).accepted
  else { s with answer := .value (s.readReg a.offset) }

/-- POWER_ON (R182). -/
def execPowerOn (s : State) : Host.Outcome State Fault Refusal := .next s.cleared

/-- RESET_REQUEST (R182). -/
def execResetRequest (s : State) : Host.Outcome State Fault Refusal := .next s.controllerReset.accepted

/-- ENABLE_REQUEST (R176, R179). -/
def execEnableRequest (s : State) : Host.Outcome State Fault Refusal := .next s.enable.accepted

/-- DRAIN_REQUEST (R177, R178). -/
def execDrainRequest (s : State) : Host.Outcome State Fault Refusal := .next s.drain.accepted

/-- POST (R125, R185). -/
def execPost (value : Word) (s : State) : Host.Outcome State Fault Refusal := .next (s.post value).accepted

/-- RELEASE (R137, R185). -/
def execRelease (value : Word) (s : State) : Host.Outcome State Fault Refusal := .next (s.release value).accepted

/-- CAUSE_ACKNOWLEDGE (R150, R151, R185). -/
def execCauseAcknowledge (value : Word) (s : State) : Host.Outcome State Fault Refusal :=
  .next (s.acknowledge value).accepted

/-- REGISTER_WRITE: every other target access, reads and refused accesses with it (R183, R190). -/
def execRegisterWrite (access : Access) (s : State) : Host.Outcome State Fault Refusal := .next (s.access access)

end Sys2Proof.Machine
end

