-- ==== Sys2Proof/Machine/Sched.lean ====
section
/-! DEFINITION. The line scheduler (chapter 5): candidates, classes, round-robin, and the hand-over. -/

namespace Sys2Proof.Machine

/-- A piece of work that may be handed over (R103). -/
inductive Work where
  | txn (i : SlotId)
  | pollNew (p : PollId)
  | pollAgain (p : PollId)
  | probe (n : NodeId)
  deriving DecidableEq, Repr

/-- A candidate: its class, its place in the search of the class, and the work. The place of the line list is 0 and of
node n is n + 1 in classes 1 and 3; the pair (node, key) of class 2 is 65 x node + key + 1; in class 4 it is the node. -/
structure Cand where
  cls   : Nat
  place : Nat
  work  : Work
  deriving DecidableEq, Repr

/-- Class 1 for URGENT and class 3 for NORMAL (R95, R96). -/
def SqClass.serviceClass : SqClass → Nat
  | .urgent => 1
  | .normal => 3

/-- The places of R101 and R102. -/
def placeOfNode (n : NodeId) : Nat := n.val + 1
def placeOfPair (n : NodeId) (key : Option PollId) : Nat :=
  65 * n.val + match key with | none => 0 | some p => p.val + 1

/-- The number of places of a class's search (R101, R102). -/
def ringOf (cls : Nat) : Nat := if cls = 2 then 8320 else if cls = 4 then 128 else 129

/-- The place of a class's position (R92). -/
def Sched.posOf (c : Sched) (cls : Nat) : Nat :=
  match cls with
  | 1 => match c.pos1 with | none => 0 | some n => placeOfNode n
  | 2 => placeOfPair c.pos2.1 c.pos2.2
  | 3 => match c.pos3 with | none => 0 | some n => placeOfNode n
  | _ => c.pos4.val

/-- The head of a list as a candidate, when it is PENDING (R95, R96). -/
def State.headCand (s : State) (place : Nat) (i : SlotId) : Option Cand :=
  match s.slot i with
  | some x => if x.st = .pending then some { cls := x.cls.serviceClass, place := place, work := .txn i } else none
  | none => none

/-- The line list's candidate (R96). -/
def State.lineListCand (s : State) (l : LineId) : Option Cand :=
  match (s.sched l).lineList with
  | i :: _ => s.headCand 0 i
  | [] => none

/-- A node's host work (R95). -/
def State.hostCand (s : State) (l : LineId) (n : NodeId) : Option Cand :=
  match s.node n with
  | none => none
  | some r =>
    match r.pendingList with
    | i :: _ =>
      if r.line = l ∧ r.health.inService = true ∧ r.holdOffEnd = none ∧ (r.openX = none ∨ r.openX = some (.slot i)) then
        s.headCand (placeOfNode n) i
      else none
    | [] => none

/-- New polls and probes are offered: the controller RUNNING and the line without the stop-requested mark (R99). -/
def State.offersNew (s : State) (l : LineId) : Bool := s.ctl == .running && !(s.line l).stopRequested

/-- A transaction whose node is a record is ACTIVE (R97). The node is told by its key, so a settled transaction whose reply
data are still being written holds back the polls of a record that SET NODE has made under the key of a removed one. The spec
does not say whether it does. DESIGN CHOICE, log entry 10. -/
def State.nodeActive (s : State) (r : Node) : Bool :=
  allSlots.any fun i =>
    match s.slot i with
    | some { txn := some t, st := .active, .. } => t.kind == .exchange && t.line == r.line && t.address == r.address
    | _ => false

/-- A poll entry's candidate (R97). -/
def State.pollCand (s : State) (l : LineId) (p : PollId) : Option Cand :=
  match s.poll p with
  | none => none
  | some e =>
    match s.node e.node with
    | none => none
    | some r =>
      if r.line ≠ l then none
      else if e.inst.isSome then
        if e.running = false ∧ r.openX = some (.poll p) then
          some { cls := 2, place := placeOfPair e.node (some p), work := .pollAgain p }
        else none
      else if e.st = .active ∧ e.due = true ∧ e.removal = false ∧ r.health.inService = true ∧ r.holdOffEnd = none ∧
          r.openX = none ∧ s.nodeActive r = false ∧ s.offersNew l = true then
        some { cls := 2, place := placeOfPair e.node (some p), work := .pollNew p }
      else none

/-- A record's probe is due: marked so, or its time is reached (R58). -/
def State.probeIsDue (s : State) (r : Node) : Bool :=
  r.probeDue || match r.nextProbe with | some t => msReached s.ms t | none => false

/-- A due probe is promoted: marked so, or a probe interval has passed since its time, with the interval read from the
line's configuration now (R98). -/
def State.probeIsPromoted (s : State) (r : Node) : Bool :=
  r.promoted ||
    match r.nextProbe with
    | some t => msReached s.ms (t + BitVec.ofNat 32 (s.line r.line).cfg.probeIval)
    | none => false

/-- A node's probe (R98). -/
def State.probeCand (s : State) (l : LineId) (n : NodeId) : Option Cand :=
  match s.node n with
  | none => none
  | some r =>
    if r.line = l ∧ r.health = .offline ∧ s.probeIsDue r = true ∧ s.probing l n = false ∧ s.offersNew l = true then
      if s.probeIsPromoted r then some { cls := 2, place := placeOfPair n none, work := .probe n }
      else some { cls := 4, place := n.val, work := .probe n }
    else none

/-- The probe of a node is promoted at this moment of choice, and stays so until it is served (R98). -/
def State.promoteNode (s : State) (l : LineId) (n : NodeId) : State :=
  match s.probeCand l n with
  | some c => if c.cls = 2 then s.modNode n fun r => { r with probeDue := true, promoted := true } else s
  | none => s

/-- The probes of a line that a choice finds promoted (R98). -/
def State.promote (s : State) (l : LineId) : State := allNodes.foldl (fun t n => t.promoteNode l n) s

/-- Every candidate of a line (section 5.4). -/
def State.candidates (s : State) (l : LineId) : List Cand :=
  (s.lineListCand l).toList ++ allNodes.filterMap (s.hostCand l) ++ allPolls.filterMap (s.pollCand l) ++
    allNodes.filterMap (s.probeCand l)

/-- The choice of R100 to R102: the first class with a candidate, and in it the first after the class's position. -/
def State.choose (s : State) (l : LineId) : Option Cand :=
  let cs := s.candidates l
  let pick := fun k => pickMin (fun c => ringRank (ringOf k) ((s.sched l).posOf k) c.place) (cs.filter (·.cls == k))
  (pick 1).or ((pick 2).or ((pick 3).or (pick 4)))

/-- The position of a class after a hand-over (R102). -/
def Sched.served (c : Sched) (cls : Nat) (node : Option NodeId) (key : Option PollId) : Sched :=
  match cls with
  | 1 => { c with pos1 := node }
  | 2 => match node with | some n => { c with pos2 := (n, key) } | none => c
  | 3 => { c with pos3 := node }
  | _ => match node with | some n => { c with pos4 := n } | none => c

/-! ### The hand-over (R75, R103, R111) -/

/-- The transaction as its first or a further attempt is handed over: the retry limit and, for an EXCHANGE, the SEQ are
fixed at the first (R75). -/
def Txn.started (t : Txn) (retry : Nat) (seq : Bool) : Txn :=
  { t with
    attempts := t.attempts + 1
    retry := some (t.retry.getD retry)
    seq := match t.kind with
      | .exchange => some (t.seq.getD seq)
      | _ => none }

/-- The attempt of a transaction (R4, R19, R20). -/
def Txn.attempt (t : Txn) (i : SlotId) (resp : Option Nat) : Attempt :=
  { owner := .slot i, address := t.address, seq := t.seq.getD false, function := t.function, data := t.data,
    respLimit := resp }

/-- Hand over a transaction of a line. -/
def State.handTxn (s : State) (l : LineId) (i : SlotId) : State :=
  match s.slot i with
  | some { txn := some t, .. } =>
    let cfg := (s.line l).cfg
    match s.nodeOfTxn t with
    | some n =>
      match s.node n with
      | some r =>
        let u := t.started (r.effRetry cfg) r.seq
        (((s.modTxn i fun _ => u).modSlot i fun x => { x with st := .active }).modNode n
            fun y => { y with openX := some (.slot i) }).modLine l (·.take (u.attempt i (some (r.effResp cfg))))
      | none => s
    | none =>
      let u := t.started cfg.retryLimit false
      let resp := match t.kind with | .broadcast => none | _ => some cfg.respLimit
      ((s.modTxn i fun _ => u).modSlot i fun x => { x with st := .active }).modLine l (·.take (u.attempt i resp))
  | _ => s

/-- The attempt of a poll instance (R111). -/
def Poll.attempt (e : Poll) (p : PollId) (seq : Bool) (address : Byte) (resp : Nat) : Attempt :=
  { owner := .poll p, address := address, seq := seq, function := e.function, data := e.data, respLimit := some resp }

/-- Hand over a new instance of a poll entry, or a further attempt of the one in flight (R111). -/
def State.handPoll (s : State) (l : LineId) (p : PollId) : State :=
  match s.poll p with
  | none => s
  | some e =>
    match s.node e.node with
    | none => s
    | some r =>
      let cfg := (s.line l).cfg
      match e.inst with
      | none =>
        let k : PollInst := { seq := r.seq, retry := r.effRetry cfg, attempts := 1, lastOut := none }
        ((s.setPoll p (some { e with due := false, inst := some k, running := true })).modNode e.node
            fun y => { y with openX := some (.poll p) }).modLine l (·.take (e.attempt p r.seq r.address (r.effResp cfg)))
      | some k =>
        (s.setPoll p (some { e with inst := some { k with attempts := k.attempts + 1 }, running := true })).modLine l
          (·.take (e.attempt p k.seq r.address (r.effResp cfg)))

/-- Hand over a probe: function 00h, SEQ 0, LENGTH 0 (section 3.7). -/
def State.handProbe (s : State) (l : LineId) (n : NodeId) : State :=
  match s.node n with
  | none => s
  | some r =>
    (s.setNode n (some { r with probeDue := false, promoted := false })).modLine l
      (·.take { owner := .probe n, address := r.address, seq := false, function := fnProbe, data := [],
                respLimit := some (r.effResp (s.line l).cfg) })

/-- The record of the node of a slot's transaction; none for the line list's kinds. -/
def State.nodeOfSlot (s : State) (i : SlotId) : Option NodeId :=
  match s.slot i with
  | some { txn := some t, .. } => s.nodeOfTxn t
  | _ => none

/-- Hand over a candidate, and move its class's position (R102, R103). -/
def State.handOver (s : State) (l : LineId) (c : Cand) : State :=
  match c.work with
  | .txn i => (s.handTxn l i).modSched l (·.served c.cls (s.nodeOfSlot i) none)
  | .pollNew p | .pollAgain p =>
    (s.handPoll l p).modSched l (·.served c.cls ((s.poll p).map (·.node)) (some p))
  | .probe n => (s.handProbe l n).modSched l (·.served c.cls (some n) none)

end Sys2Proof.Machine
end

