-- ==== Sys2Proof/Machine/LineEvents.lean ====
section
/-! DEFINITION. The meanings of the scheduler's choice and of the events of a line unit (chapters 2 and 5). An event of a
line timer acts when its timer has come to its time (log entry 2); an event that cannot arise in the line's state changes nothing
(log entry 1). What comes about in the same step follows (log entry 3). -/

namespace Sys2Proof.Machine

/-- The scheduler's choice and hand-over, while its line is IDLE (R99, R103). That the choice of a line with a candidate
standing comes with this command, be it after time has passed, is a DESIGN CHOICE, log entry 2. The probes that this choice
finds promoted keep that until they are served (R98). -/
def State.schedule (s : State) (l : LineId) : State :=
  if s.working && (s.line l).st == .idle then
    let s1 := s.promote l
    match s1.choose l with
    | some c => s1.handOver l c
    | none => s1
  else s

/-- The start bit of a character from outside (R18, R33, R39). -/
def State.startBitOn (s : State) (l : LineId) : State :=
  if (s.line l).sendingNow then s
  else if (s.line l).st = .off then s.modLine l (·.wire true)
  else s.modLine l Line.startBit

/-- The wire is at space after a character that the part sent. -/
def echoLow : Echo → Bool
  | .silence => false
  | .char _ _ stopOk => !stopOk

/-- A character that STOP LINE cut has been sent to its end: the driver is released (R16, R38). In OFF no more is heard of it
than the level it leaves on the wire; a line started meanwhile hears its echo (R18). -/
def Line.cutEnds (l : Line) (echo : Echo) : Line :=
  if l.driver = false then l
  else if l.st = .off then { l.wire (echoLow echo) with driver := false }
  else { l.echoed echo with driver := false }

/-- The end of a character sent (R22, R36, R38). -/
def State.charSent (s : State) (l : LineId) (echo : Echo) : State :=
  let x := s.line l
  match x.st, x.attempt with
  | .off, _ => s.setLine l (x.cutEnds echo)
  | .tx, some a => s.txChar l a echo
  | .starting, _ => if x.phase = .sending then s.resyncChar l echo else s.setLine l (x.cutEnds echo)
  | _, _ => s

/-- The sending phase of STARTING begins: the driver is enabled (R36). -/
def Line.enterSending (l : Line) : Line := { l with phase := .sending, driver := true, txPos := 0, inChar := true, charT := 0 }

/-- What the guard time does to a line: TX with an attempt, IDLE without one, the RESYNC in STARTING (R21, R31, R33,
R36). -/
def Line.guardDone (l : Line) : Line :=
  match l.st, l.attempt with
  | .guard, some _ => l.enterTx
  | .guard, none => { l with st := .idle }
  | .starting, _ => if l.phase = .guardWait then l.enterSending else l
  | _, _ => l

/-- The line waits for the guard time. -/
def Line.awaitsGuard (l : Line) : Bool := l.st == .guard || (l.st == .starting && l.phase == .guardWait)

/-- The line comes to have been silent for the guard time (R18, R21). -/
def State.guardTime (s : State) (l : LineId) : State :=
  let x := s.line l
  if x.awaitsGuard && x.guardReached then s.modLine l Line.guardDone else s

/-- The bound on the guard wait: the attempt's response limit, or the line's default for a broadcast (R21). -/
def Line.waitBound (l : Line) (a : Attempt) : Nat := a.respLimit.getD l.cfg.respLimit

/-- The guard wait of an attempt reaches its bound with the guard time not reached: no character was sent (R21, R32). -/
def State.guardWait (s : State) (l : LineId) : State :=
  let x := s.line l
  match x.st, x.attempt with
  | .guard, some a =>
    if x.waitBound a ≤ x.waited ∧ x.guardReached = false then s.endAttempt l (Report.plain .clash false) .guard else s
  | _, _ => s

/-- The gap timer passes the gap limit (R24, R27, R31, R36). -/
def State.gapPassed (s : State) (l : LineId) : State :=
  let x := s.line l
  if x.silent = true ∧ x.cfg.gapBits < x.gapT then
    match x.st with
    | .rx => s.endAttempt l (Report.bare .truncated) .guard
    | .wait => s.modLine l fun y => { y with foreign := false }
    | .settle => s.modLine l fun y => { y with st := .guard }
    | .starting => if x.phase = .clashed then s.modLine l fun y => { y with phase := .guardWait } else s
    | _ => s
  else s

/-- The response timer reaches the limit in WAIT with no character in progress (R25). A character whose first stop bit is at
space holds the limit off until the wire returns to mark: R18 ends it at that bit, and R25 would give TIMEOUT there, but
R29 judges it at the return to mark as CHAR_ERROR, or the break comes first. DESIGN CHOICE, log entry 5. -/
def State.respTimeout (s : State) (l : LineId) : State :=
  let x := s.line l
  match x.st, x.attempt with
  | .wait, some a =>
    if x.silent = true ∧ a.respLimit.getD 0 ≤ x.respT then s.endAttempt l (Report.bare .timeout) .guard else s
  | _, _ => s

/-- The break timer reaches 20 character times (R34). -/
def State.breakSeen (s : State) (l : LineId) : State :=
  if (s.line l).cfg.breakBits ≤ (s.line l).breakT then s.breakLine l else s

/-- The line has been at mark for 2 character times in FAULT (R35): it can have been since it was last known at space, and
the event says that it was (log entry 5). -/
def State.faultEnds (s : State) (l : LineId) : State :=
  let x := s.line l
  if x.st = .fault ∧ x.cfg.markBits ≤ x.markT then (s.modLine l Line.recover).pend (.line l) else s

/-- The broadcast quiet timer has expired (R18, R23, R36). -/
def Line.quietEnds (l : Line) : Line :=
  { l with quietOn := false, quietT := 0, guardT := 0,
           st := if l.st = .starting ∧ l.phase = .quiet then .guard else l.st }

/-- The broadcast quiet timer expires (R23, R36). -/
def State.quietExpired (s : State) (l : LineId) : State :=
  let x := s.line l
  if x.quietOn = true ∧ x.cfg.quietTime ≤ x.quietT then s.modLine l Line.quietEnds else s

/-! ### The meanings -/

/-- SCHEDULER_CHOICE (R99 to R103). -/
def execSchedulerChoice (line : LineId) (s : State) : Host.Outcome State Fault Refusal := .next (s.schedule line)

/-- START_BIT_IN_IDLE (R18, R33). -/
def execStartBitInIdle (line : LineId) (s : State) : Host.Outcome State Fault Refusal := .next (s.startBitOn line).closing

/-- CHARACTER_RECEIVED (R21, R24 to R28, R31, R33). -/
def execCharacterReceived (line : LineId) (byte : Byte) (last : CharEnd) (s : State) :
    Host.Outcome State Fault Refusal :=
  .next (s.receive line byte last).closing

/-- CHARACTER_SENT (R22, R23, R36). -/
def execCharacterSent (line : LineId) (echo : Echo) (s : State) : Host.Outcome State Fault Refusal :=
  .next (s.charSent line echo).closing

/-- MISSING_STOP_BIT (R29). -/
def execMissingStopBit (line : LineId) (s : State) : Host.Outcome State Fault Refusal :=
  .next (s.missingStop line).closing

/-- GUARD_TIME_REACHED (R18, R21, R36). -/
def execGuardTimeReached (line : LineId) (s : State) : Host.Outcome State Fault Refusal :=
  .next (s.guardTime line).closing

/-- GUARD_WAIT_BOUND_REACHED (R21). -/
def execGuardWaitBoundReached (line : LineId) (s : State) : Host.Outcome State Fault Refusal :=
  .next (s.guardWait line).closing

/-- GAP_LIMIT_PASSED (R24, R27, R31, R36). -/
def execGapLimitPassed (line : LineId) (s : State) : Host.Outcome State Fault Refusal := .next (s.gapPassed line).closing

/-- RESPONSE_TIMEOUT (R25). -/
def execResponseTimeout (line : LineId) (s : State) : Host.Outcome State Fault Refusal := .next (s.respTimeout line).closing

/-- BREAK_DETECTED (R34). -/
def execBreakDetected (line : LineId) (s : State) : Host.Outcome State Fault Refusal := .next (s.breakSeen line).closing

/-- FAULT_RECOVERY (R35). -/
def execFaultRecovery (line : LineId) (s : State) : Host.Outcome State Fault Refusal := .next (s.faultEnds line).closing

/-- BROADCAST_QUIET_EXPIRED (R23, R36). -/
def execBroadcastQuietExpired (line : LineId) (s : State) : Host.Outcome State Fault Refusal :=
  .next (s.quietExpired line).closing

end Sys2Proof.Machine
end

