-- ==== Sys2Proof/Machine/Timers.lean ====
section
/-! DEFINITION. The expiries of the timebase (R57, R58, R83, R98, R109, R148, R149), the tick of the clock in which they are
taken (R182), and the meanings of their rows. An expiry acts when the count has reached its time and changes nothing before
(log entries 1 and 2); in OFF and FATAL none changes anything (R122, R151, R180). -/

namespace Sys2Proof.Machine

/-- A transaction with a deadline that is PENDING, or whose attempt runs: its expiry acts on it (R83). -/
def State.deadlineOf (s : State) (i : SlotId) : Option Word :=
  match s.slot i with
  | some { txn := some t, st := .pending, .. } => t.deadline
  | some { txn := some t, st := .active, settled := none, .. } => t.deadline
  | _ => none

/-- The deadline is reached: PENDING completes EXPIRED, ACTIVE gets its deadline-passed mark (R83). -/
def State.expire (s : State) (i : SlotId) : State :=
  if s.isPending i then s.complete i .expired 0 0 false
  else s.modTxn i fun t => { t with latePass := true }

/-- The expiry of a deadline (R83). -/
def State.deadlineEnds (s : State) (i : SlotId) : State :=
  match s.deadlineOf i with
  | some d => if s.live = true ∧ msReached s.ms d = true then (s.expire i).closing else s
  | none => s

/-- The end of a hold-off (R57). -/
def State.holdOffEnds (s : State) (n : NodeId) : State :=
  match (s.node n).bind (·.holdOffEnd) with
  | some t => if s.live = true ∧ msReached s.ms t = true then s.modNode n fun r => { r with holdOffEnd := none } else s
  | none => s

/-- The next probe time of an OFFLINE record with no probe in progress (R58). -/
def State.probeTime (s : State) (n : NodeId) : Option Word :=
  match s.node n with
  | some r => if r.health = .offline ∧ s.probing r.line n = false then r.nextProbe else none
  | none => none

/-- A probe falls due (R58). -/
def State.probeFallsDue (s : State) (n : NodeId) : State :=
  match s.probeTime n with
  | some t => if s.live = true ∧ msReached s.ms t = true then s.modNode n fun r => { r with probeDue := true } else s
  | none => s

/-- A due probe has waited a full probe interval (R98). R98 reads the interval at the moment of choice; a PROBE_PROMOTED apart
from a choice stands for such a moment, so it acts only while the line is IDLE and its scheduler can choose, and the mark it
sets is kept until the probe is served, even where CONFIGURE LINE lengthens the interval first. DESIGN CHOICE, log entry
16. -/
def State.probePromotes (s : State) (n : NodeId) : State :=
  match s.node n with
  | some r => if s.working = true ∧ (s.line r.line).st = .idle then s.promoteNode r.line n else s
  | none => s

/-- The entry after a period expiry (R109). -/
def Poll.expired (e : Poll) (due : Word) : Poll :=
  { e with
    nextDue := some (due + BitVec.ofNat 32 e.period)
    due := e.due || e.inst.isNone
    missed := if e.due || e.inst.isSome then satSucc 255 e.missed else e.missed }

/-- An entry takes period expiries: ACTIVE, without the removal mark (R109, R121). -/
def Poll.dueTime (e : Poll) : Option Word := if e.st = .active ∧ e.removal = false then e.nextDue else none

/-- A period expiry (R109). -/
def State.periodEnds (s : State) (p : PollId) : State :=
  match (s.poll p).bind (·.dueTime) with
  | some t => if s.live = true ∧ msReached s.ms t = true then s.modPoll p (·.expired t) else s
  | none => s

/-- The delay timer enters EXPIRED, and sets the cause when interrupts are enabled (R148, R149). -/
def Cq.timerEnds (d : Cq) : Cq := { d with timer := .expired, cause := d.cause || d.irqEnable }

/-- The expiry of an aggregator's delay timer (R148, R149, R152). -/
def State.aggregatorEnds (s : State) (c : CqId) : State :=
  match (s.cq c).timer with
  | .running e => if s.live = true ∧ (s.cq c).delay ≤ e then s.modCq c Cq.timerEnds else s
  | _ => s

/-! ### The tick (R178, R182) -/

/-- Every expiry whose time the count has reached is taken. The order among those of one instant is the model's: deadlines
by slot, hold-off ends and probe times by node, periods by entry, delay timers by CQ. DESIGN CHOICE, log entry 2. -/
def State.takeExpiries (s : State) : State :=
  let s1 := allSlots.foldl State.deadlineEnds s
  let s2 := allNodes.foldl State.holdOffEnds s1
  let s3 := allNodes.foldl State.probeFallsDue s2
  let s4 := allPolls.foldl State.periodEnds s3
  allCqs.foldl State.aggregatorEnds s4

/-- Every hand-over that found the guard time reached is in TX (R21). -/
def State.begins (s : State) : State :=
  { s with lines := #v[(s.line 0).begins, (s.line 1).begins, (s.line 2).begins, (s.line 3).begins] }

/-- A tick of the clock, a third of a microsecond: before time goes on a controller that can stop has stopped (R178) and a
hand-over at a guard time already reached is in TX (R21); then each expiry is taken in the step in which the count reaches
its time (R182). A tick makes no scheduler's choice (R103) and begins no work of another block: those come with their own
commands, and time passes before them where they are not queued. DESIGN CHOICE, log entry 2. -/
def State.tick (s : State) : State := (s.stops.begins.pass 1).takeExpiries

/-! ### The meanings -/

/-- DEADLINE_EXPIRED (R83). -/
def execDeadlineExpired (slot : SlotId) (s : State) : Host.Outcome State Fault Refusal := .next (s.deadlineEnds slot)

/-- HOLD_OFF_END (R57). -/
def execHoldOffEnd (node : NodeId) (s : State) : Host.Outcome State Fault Refusal := .next (s.holdOffEnds node)

/-- PROBE_DUE (R58). -/
def execProbeDue (node : NodeId) (s : State) : Host.Outcome State Fault Refusal := .next (s.probeFallsDue node)

/-- PROBE_PROMOTED (R98). -/
def execProbePromoted (node : NodeId) (s : State) : Host.Outcome State Fault Refusal := .next (s.probePromotes node)

/-- PERIOD_EXPIRY (R109). -/
def execPeriodExpiry (poll : PollId) (s : State) : Host.Outcome State Fault Refusal := .next (s.periodEnds poll)

/-- AGGREGATOR_TIMER_EXPIRED (R148, R149). -/
def execAggregatorTimerExpired (cq : CqId) (s : State) : Host.Outcome State Fault Refusal :=
  .next (s.aggregatorEnds cq)

end Sys2Proof.Machine
end

