-- ==== Sys2Proof/Machine/Writer.lean ====
section
/-! DEFINITION. The completion writer (section 7.5), the taking of notices (section 8.3), the counting of entries
(section 8.5) and the reply data write (R81), with the meanings of their commands. -/

namespace Sys2Proof.Machine

/-! ### The choice (R135, R136) -/

/-- The pending-notice list counts for the notice CQ alone (R135). -/
def State.noticesFor (s : State) (c : CqId) : Bool := s.noticeCq == c && !s.noticeList.isEmpty

/-- The kind of the next entry of a CQ (R135). -/
def State.nextKind (s : State) (c : CqId) : Option EntryKind :=
  match (s.cq c).held.isEmpty, s.noticesFor c with
  | false, false => some .completion
  | true, true => some .notice
  | false, true => some (match (s.cq c).lastKind with | .completion => .notice | .notice => .completion)
  | true, false => none

/-- A CQ has work (R136). -/
def State.hasWork (s : State) (c : CqId) : Bool :=
  (s.cq c).st == .active && decide ((s.cq c).unreleased < (s.cq c).size) && (s.nextKind c).isSome

/-- The first CQ with work after the position (R136). -/
def State.chooseCq (s : State) : Option CqId :=
  pickMin (fun c => ringRank 4 s.writerPos.val c.val) (allCqs.filter s.hasWork)

/-- The address of an entry position: base + 16 x p, modulo 2^32 (R131). -/
def Cq.addressOf (d : Cq) (p : Nat) : Word := d.base + BitVec.ofNat 32 (16 * p)

/-! ### Completions (R90, R133, R156) -/

/-- The completion of a HELD slot (R90). -/
def State.slotCompletion (s : State) (x : Slot) (r : Settled) : Completion :=
  { tag := x.tag, sq := x.sq.val, status := r.status, replyLen := r.replyLen, code := r.replyCode
    attempts := match x.txn with | some t => t.attempts | none => 0
    busies := match x.txn with | some t => t.busies | none => 0
    turn := r.turn, nodeState := r.nodeState, abortLate := r.abortLate, unknown := r.outcomeUnk
    sqHead := (s.sq x.sq).head }

/-- The completion of an admin result (R156). -/
def State.adminCompletion (s : State) (d : AdminDone) : Completion :=
  { tag := d.tag, sq := 0, status := d.status, replyLen := 0, code := le8 d.value, attempts := 0, busies := 0
    turn := 0, nodeState := d.nodeState, abortLate := false, unknown := false, sqHead := (s.sq 0).head }

/-- The completion that an entry of a held list stands for. -/
def State.completionOf (s : State) : HeldRef → Option Completion
  | .slot i =>
    match s.slot i with
    | some x => x.settled.map (s.slotCompletion x)
    | none => none
  | .admin => s.adminResult.map s.adminCompletion

/-- The write of a 16-byte entry at the tail of a CQ is requested (R133). -/
def State.pushEntry (s : State) (c : CqId) (bytes : List Byte) : State :=
  s.pushWrite { addr := (s.cq c).addressOf (s.cq c).tail, data := bytes, use := .entry }

/-- An entry is in progress, and the writer's position takes its CQ (R136). -/
def State.writing (s : State) (c : CqId) (w : EntryWork) : State :=
  { s with writer := some { cq := c, work := w }, writerPos := c }

/-- Begin a completion entry: the head of the held list (R132, R133). -/
def State.beginCompletion (s : State) (c : CqId) : State :=
  match (s.cq c).held with
  | ref :: _ =>
    match s.completionOf ref with
    | some d => (s.pushEntry c (d.bytes (s.cq c).phase)).writing c (.completion ref)
    | none => s
  | [] => s

/-! ### Notices (R119, R144, R145) -/

/-- Begin a posting of a poll entry from the copy of its stored reply (R119). -/
def State.beginPoll (s : State) (c : CqId) (p : PollId) (e : Poll) : State :=
  let phase := (s.cq c).phase
  let s1 := s.setPoll p (some { e with change := false })
  if e.st = .faulted then
    (s1.pushEntry c (pollFaultNotice p e.node e.stored.length phase)).writing c .notice
  else if e.stored.length = 0 then (s1.pushEntry c (pollChangeNotice p e.node e.st 0 phase)).writing c .notice
  else
    { s1 with nuWrite := some { addr := e.buffer, data := e.stored, use := .pollData } }.writing c
      (.pollData p e.node e.st e.stored.length false)

/-- The taking of a source, already off the list: the notice is formed and the source is reset (R144). -/
def State.takeSource (s : State) (c : CqId) : Source → State
  | .sq q =>
    ((s.modSq q fun x => { x with noticeMark := false }).pushEntry c (sqNotice q (s.sq q) (s.cq c).phase)).writing c .notice
  | .cq d =>
    ((s.modCq d fun x => { x with noticeMark := false }).pushEntry c (cqNotice d (s.cq d) (s.cq c).phase)).writing c .notice
  | .line l =>
    ((s.modLine l fun x => { x with transitions := 0 }).pushEntry c (lineNotice l (s.line l) (s.cq c).phase)).writing c
      .notice
  | .node n =>
    match s.node n with
    | some r =>
      ((s.setNode n (some { r with noticeMark := false, transitions := 0 })).pushEntry c
        (nodeNotice n r (s.cq c).phase)).writing c .notice
    | none => s
  | .poll p =>
    match s.poll p with
    | some e => s.beginPoll c p e
    | none => s

/-- Begin a notice entry: the head of the pending-notice list leaves it (R144). -/
def State.beginNotice (s : State) (c : CqId) : State :=
  match s.noticeList with
  | x :: rest => { s with noticeList := rest }.takeSource c x
  | [] => s

/-- The completion writer begins an entry (R135, R136). -/
def State.beginEntry (s : State) : State :=
  if s.working && s.writer.isNone then
    match s.chooseCq with
    | some c =>
      match s.nextKind c with
      | some .completion => s.beginCompletion c
      | some .notice => s.beginNotice c
      | none => s
    | none => s
  else s

/-- A poll entry whose data write failed is withdrawn and FAULTED, unless it is on its way out (R119, R121). -/
def State.faultPoll (s : State) (p : PollId) : State :=
  match s.poll p with
  | some e => if e.removal then s else (s.withdraw p).modPoll p fun x => { x with st := .faulted }
  | none => s

/-- The poll data write ends, and the notice record follows it (R119). -/
def State.pollDataWritten (s : State) (a : WriteAnswer) : State :=
  match s.nuWrite, s.writer with
  | some _, some { cq := c, work := .pollData p node st len gone } =>
    let s1 := { s with nuWrite := none, writer := some { cq := c, work := .notice } }
    let phase := (s.cq c).phase
    match a with
    | .accepted => s1.pushEntry c (pollChangeNotice p node st len phase)
    | .error =>
      (if gone then s1 else s1.faultPoll p).pushEntry c (pollFaultNotice p node len phase)
  | _, _ => s

/-! ### The end of an entry (R133, R138, R148, R149) -/

/-- An entry is counted by the aggregator; the timer starts with the first since the acknowledge, and a delay of 0
expires at once (R148, R149). -/
def Cq.counted (d : Cq) : Cq :=
  let n := satSucc 255 d.count
  let starts := decide (d.count = 0) && d.timer == .stopped
  let expires := starts && decide (d.delay = 0)
  { d with
    count := n
    timer := if expires then .expired else if starts then .running 0 else d.timer
    cause := d.cause || (d.irqEnable && (decide (d.threshold ≤ n) || expires)) }

/-- The descriptor after an entry of a kind has been written at its tail (R133). -/
def Cq.written (d : Cq) (k : EntryKind) : Cq :=
  { d with
    tail := (d.tail + 1) % d.size
    phase := if d.tail + 1 = d.size then !d.phase else d.phase
    unreleased := d.unreleased + 1
    lastKind := k
    held := match k with | .completion => d.held.tail | .notice => d.held }.counted

/-- What a written completion frees: its slot, or the admin result (R90, R133, R154). -/
def State.freeEntry (s : State) : HeldRef → State
  | .slot i => s.setSlot i none
  | .admin => { s with adminResult := none }

/-- The write at the front of the queue unit's writes ends. -/
def State.popWrite (s : State) : State := { s with quWrites := s.quWrites.tail }

/-- The front write of the queue unit is an entry, and the writer's entry awaits its end. -/
def State.entryEnds (s : State) : Option (CqId × EntryWork) :=
  match s.quWrites, s.writer with
  | { use := .entry, .. } :: _, some { cq := c, work := w } =>
    match w with
    | .pollData .. => none
    | _ => some (c, w)
  | _, _ => none

/-- The host accepts the record (R133). -/
def State.entryWritten (s : State) : State :=
  match s.entryEnds with
  | some (c, .completion ref) =>
    (({ s.popWrite with writer := none }.modCq c (·.written .completion)).freeEntry ref).closing
  | some (c, _) => ({ s.popWrite with writer := none }.modCq c (·.written .notice)).closing
  | none => s

/-- The host refuses the record (R138). -/
def State.entryFailed (s : State) : State :=
  match s.entryEnds with
  | some (_, .completion _) => s.enterFatal .completionWrite
  | some _ => s.enterFatal .noticeWrite
  | none => s

/-! ### The reply data write (R81, R89) -/

/-- The settled result as it enters HELD: HOST_WRITE_ERROR on a bus error, and the node's state as it then is, or as it
was settled when the record is gone (R81, R89). -/
def Settled.atHeld (r : Settled) (a : WriteAnswer) (now : Option Health) : Settled :=
  { r with
    status := match a with | .accepted => r.status | .error => .hostWriteError
    nodeState := now.or r.nodeState }

/-- The reply data write at the front of the queue unit's writes ends (R81). The node's record is looked up by its key: a
record made by SET NODE under the same key since the settling is the one whose state is reported. The spec is silent on
it; DESIGN CHOICE, log entry 10. -/
def State.replyWritten (s : State) (a : WriteAnswer) : State :=
  match s.quWrites with
  | { use := .reply i, .. } :: _ =>
    match s.slot i with
    | some { st := .active, txn := some t, settled := some r, .. } =>
      (s.popWrite.enterHeld i (r.atHeld a (s.healthOfTxn t))).closing
    | _ => s.popWrite
  | _ => s

/-! ### The meanings -/

/-- WRITER_BEGIN_ENTRY (R135, R136, R144). -/
def execWriterBeginEntry (s : State) : Host.Outcome State Fault Refusal := .next s.beginEntry

/-- POLL_DATA_WRITE_DONE (R119). -/
def execPollDataWriteDone (answer : WriteAnswer) (s : State) : Host.Outcome State Fault Refusal :=
  .next (s.pollDataWritten answer)

/-- ENTRY_WRITE_DONE (R133, R148, R149). -/
def execEntryWriteDone (s : State) : Host.Outcome State Fault Refusal := .next s.entryWritten

/-- ENTRY_WRITE_ERROR (R138, R180). -/
def execEntryWriteError (s : State) : Host.Outcome State Fault Refusal := .next s.entryFailed

/-- REPLY_DATA_WRITE_DONE (R81). -/
def execReplyDataWriteDone (answer : WriteAnswer) (s : State) : Host.Outcome State Fault Refusal :=
  .next (s.replyWritten answer)

end Sys2Proof.Machine
end

