-- ==== Sys2Proof/Machine/Dispatch.lean ====
section
/-! DEFINITION. The meaning of every command: one arm per constructor of `Instr`. -/

namespace Sys2Proof.Machine

def exec (i : Instr) (s : State) : Host.Outcome State Fault Refusal :=
  match i with
  | .powerOn => Sys2Proof.Machine.execPowerOn s
  | .resetRequest => Sys2Proof.Machine.execResetRequest s
  | .enableRequest => Sys2Proof.Machine.execEnableRequest s
  | .drainRequest => Sys2Proof.Machine.execDrainRequest s
  | .post value => Sys2Proof.Machine.execPost value s
  | .release value => Sys2Proof.Machine.execRelease value s
  | .causeAcknowledge value => Sys2Proof.Machine.execCauseAcknowledge value s
  | .registerWrite access => Sys2Proof.Machine.execRegisterWrite access s
  | .fetchStart => Sys2Proof.Machine.execFetchStart s
  | .fetchRecordReadDone r => Sys2Proof.Machine.execFetchRecordReadDone r s
  | .fetchDataReadDone bytes => Sys2Proof.Machine.execFetchDataReadDone bytes s
  | .fetchReadError => Sys2Proof.Machine.execFetchReadError s
  | .adminFetchStart => Sys2Proof.Machine.execAdminFetchStart s
  | .adminReadError => Sys2Proof.Machine.execAdminReadError s
  | .adminInvalidOpcode r => Sys2Proof.Machine.execAdminInvalidOpcode r s
  | .createCq r => Sys2Proof.Machine.execCreateCq r s
  | .deleteCq r => Sys2Proof.Machine.execDeleteCq r s
  | .tuneCq r => Sys2Proof.Machine.execTuneCq r s
  | .createSq r => Sys2Proof.Machine.execCreateSq r s
  | .deleteSq r => Sys2Proof.Machine.execDeleteSq r s
  | .configureLine r => Sys2Proof.Machine.execConfigureLine r s
  | .startLine r => Sys2Proof.Machine.execStartLine r s
  | .stopLineDraining r => Sys2Proof.Machine.execStopLineDraining r s
  | .stopLineAborting r => Sys2Proof.Machine.execStopLineAborting r s
  | .setNode r => Sys2Proof.Machine.execSetNode r s
  | .removeNode r => Sys2Proof.Machine.execRemoveNode r s
  | .readNode r => Sys2Proof.Machine.execReadNode r s
  | .addPoll r => Sys2Proof.Machine.execAddPoll r s
  | .removePoll r => Sys2Proof.Machine.execRemovePoll r s
  | .readPoll r => Sys2Proof.Machine.execReadPoll r s
  | .abortBySqAndTag r => Sys2Proof.Machine.execAbortBySqAndTag r s
  | .abortByNode r => Sys2Proof.Machine.execAbortByNode r s
  | .abortByLine r => Sys2Proof.Machine.execAbortByLine r s
  | .setNoticeQueue r => Sys2Proof.Machine.execSetNoticeQueue r s
  | .addPollDataReadDone answer => Sys2Proof.Machine.execAddPollDataReadDone answer s
  | .readNodeImageWriteDone answer => Sys2Proof.Machine.execReadNodeImageWriteDone answer s
  | .readPollImageWriteDone answer => Sys2Proof.Machine.execReadPollImageWriteDone answer s
  | .abortComplete => Sys2Proof.Machine.execAbortComplete s
  | .readyCommandResult => Sys2Proof.Machine.execReadyCommandResult s
  | .writerBeginEntry => Sys2Proof.Machine.execWriterBeginEntry s
  | .pollDataWriteDone answer => Sys2Proof.Machine.execPollDataWriteDone answer s
  | .entryWriteDone => Sys2Proof.Machine.execEntryWriteDone s
  | .entryWriteError => Sys2Proof.Machine.execEntryWriteError s
  | .replyDataWriteDone answer => Sys2Proof.Machine.execReplyDataWriteDone answer s
  | .schedulerChoice line => Sys2Proof.Machine.execSchedulerChoice line s
  | .startBitInIdle line => Sys2Proof.Machine.execStartBitInIdle line s
  | .characterReceived line byte last => Sys2Proof.Machine.execCharacterReceived line byte last s
  | .characterSent line echo => Sys2Proof.Machine.execCharacterSent line echo s
  | .missingStopBit line => Sys2Proof.Machine.execMissingStopBit line s
  | .guardTimeReached line => Sys2Proof.Machine.execGuardTimeReached line s
  | .guardWaitBoundReached line => Sys2Proof.Machine.execGuardWaitBoundReached line s
  | .gapLimitPassed line => Sys2Proof.Machine.execGapLimitPassed line s
  | .responseTimeout line => Sys2Proof.Machine.execResponseTimeout line s
  | .breakDetected line => Sys2Proof.Machine.execBreakDetected line s
  | .faultRecovery line => Sys2Proof.Machine.execFaultRecovery line s
  | .broadcastQuietExpired line => Sys2Proof.Machine.execBroadcastQuietExpired line s
  | .deadlineExpired slot => Sys2Proof.Machine.execDeadlineExpired slot s
  | .holdOffEnd node => Sys2Proof.Machine.execHoldOffEnd node s
  | .probeDue node => Sys2Proof.Machine.execProbeDue node s
  | .probePromoted node => Sys2Proof.Machine.execProbePromoted node s
  | .periodExpiry poll => Sys2Proof.Machine.execPeriodExpiry poll s
  | .aggregatorTimerExpired cq => Sys2Proof.Machine.execAggregatorTimerExpired cq s
  | .lineEntersOff line => Sys2Proof.Machine.execLineEntersOff line s
  | .controllerStopped => Sys2Proof.Machine.execControllerStopped s
  | .nodeRecordVacant node => Sys2Proof.Machine.execNodeRecordVacant node s
  | .pollEntryEmpty poll => Sys2Proof.Machine.execPollEntryEmpty poll s
  | .sqBecomesAbsent sq => Sys2Proof.Machine.execSqBecomesAbsent sq s
  | .cqBecomesAbsent cq => Sys2Proof.Machine.execCqBecomesAbsent cq s

end Sys2Proof.Machine
end

