-- ==== Sys2Proof/Machine/Node.lean ====
section
/-! DEFINITION. A conforming node (R9, R12 to R14): the other side of the line protocol. It is no part of the machine and
of its state (log entry 7); statements about the two sides together speak of it. -/

namespace Sys2Proof.Machine

/-- The sequence state of a conforming node, with its address (section 1.6). -/
structure Remote where
  address  : Byte
  expected : Bool
  cached   : Option (List Byte)
  deriving DecidableEq, Repr

/-- What the node's own firmware does with a request: execute it, refuse it, or put it off (R12, R13). -/
inductive Deed where
  | execute (reply : List Byte)
  | reject (reason : Byte) (more : List Byte)
  | busy (hint : Option Byte)
  deriving DecidableEq, Repr

/-- What came of a frame: the node after it, the reply frame it sends, and whether the request was executed. -/
structure Heard where
  node     : Remote
  reply    : Option (List Byte)
  executed : Bool
  deriving DecidableEq, Repr

/-- At power-up the expected SEQ is 0 and nothing is cached (R12). -/
def Remote.powerUp (address : Byte) : Remote := { address := address, expected := false, cached := none }

/-- A frame is ignored. -/
def Remote.ignores (n : Remote) : Heard := { node := n, reply := none, executed := false }

/-- A frame is whole: LENGTH + 5 characters with a correct check (R7, R11). -/
def frameWhole (f : List Byte) : Bool := decide (f.length = rxLength f + 5) && rxCheckOk f

/-- A request that a node takes: whole, DIR 0, LENGTH 48 or less (R12, R14). -/
def requestOk (f : List Byte) : Bool := frameWhole f && !rxDir f && decide (rxLength f ≤ Config.maxData)

/-- A reply frame: the request's ADDRESS and SEQ, DIR 1, a code and data (R9). -/
def replyFrame (f : List Byte) (code : Byte) (data : List Byte) : List Byte :=
  frameOf (byteAt f 0) (controlByte (rxSeq f) true code) data

/-- The request is executed or rejected: its reply is cached and the expected SEQ becomes the value that differs from the
request's (R12, R13). -/
def Remote.executes (n : Remote) (f reply : List Byte) : Heard :=
  { node := { n with expected := !rxSeq f, cached := some reply }, reply := some reply, executed := true }

/-- A BUSY reply leaves the node's state as it was (R13). -/
def Remote.putsOff (n : Remote) (f : List Byte) (hint : Option Byte) : Heard :=
  { node := n, reply := some (replyFrame f codeBusy hint.toList), executed := false }

/-- A request of a host function (R12, R13). -/
def Remote.exchange (n : Remote) (d : Deed) (f : List Byte) : Heard :=
  match d with
  | .busy hint => n.putsOff f hint
  | .execute data =>
    match (if rxSeq f = n.expected then none else n.cached) with
    | some c => { node := n, reply := some c, executed := false }
    | none => n.executes f (replyFrame f (rxCode f) data)
  | .reject reason more =>
    match (if rxSeq f = n.expected then none else n.cached) with
    | some c => { node := n, reply := some c, executed := false }
    | none => n.executes f (replyFrame f codeReject (reason :: more))

/-- PROBE (R14). -/
def Remote.probed (n : Remote) (identity f : List Byte) : Heard :=
  { node := { n with expected := false, cached := none }, reply := some (replyFrame f fnProbe identity), executed := true }

/-- A frame to FFh (R14). -/
def Remote.broadcast (n : Remote) (f : List Byte) : Heard :=
  if rxCode f = fnResync then { node := { n with expected := false, cached := none }, reply := none, executed := true }
  else { node := n, reply := none, executed := hostFunction (rxCode f) }

/-- A node hears a frame (R12 to R14). -/
def Remote.hear (n : Remote) (d : Deed) (identity f : List Byte) : Heard :=
  if requestOk f = false then n.ignores
  else if byteAt f 0 = broadcastAddr then n.broadcast f
  else if byteAt f 0 ≠ n.address then n.ignores
  else if rxCode f = fnProbe then n.probed identity f
  else if hostFunction (rxCode f) then n.exchange d f
  else n.ignores

end Sys2Proof.Machine
end

