-- ==== Sys2Proof/Safety.lean ====
section
/-! DEFINITION. The terms that statements use: the state that a reset leaves, the invariants of the machine, and the steps
that the admin unit takes around every command. -/

namespace Sys2Proof.Machine

/-! ### After a reset -/

/-- The defaults of R17, written out. -/
def defaultCfg : LineCfg :=
  { divisor := 26, stopBits := 1, guardTime := 22, gapLimit := 4, respLimit := 1100, retryLimit := 2, offThresh := 3,
    probeIval := 1000, busyHold := 20, quietTime := 220 }

/-- A line as power-on and controller reset leave it (R39). -/
def Line.AtReset (l : Line) : Prop :=
  l.st = .off ∧ l.driver = false ∧ l.attempt = none ∧ l.stopRequested = false ∧ l.cfg = defaultCfg ∧ l.guardT = 0 ∧
    l.gapT = 0 ∧ l.respT = 0 ∧ l.breakT = 0 ∧ l.quietT = 0 ∧ l.quietOn = false ∧ l.rxBuf = [] ∧ l.transitions = 0

/-- A scheduler as power-on and controller reset leave it (R93). -/
def Sched.AtReset (c : Sched) : Prop :=
  c.lineList = [] ∧ c.pos1 = some 127 ∧ c.pos2 = (127, some 63) ∧ c.pos3 = some 127 ∧ c.pos4 = 127

/-- No access of the host port as master is outstanding or waiting (R186). -/
def State.BusFree (s : State) : Prop :=
  s.quRead = none ∧ s.quWrites = [] ∧ s.adRead = none ∧ s.adWrite = none ∧ s.nuWrite = none

/-- What power-on and controller reset leave alike (R39, R64, R91, R93, R122, R140, R152, R153, R182). -/
def State.AtReset (s : State) : Prop :=
  s.ctl = .off ∧ s.fatalCause = .noCause ∧ s.configError = false ∧ s.causeReg = 0 ∧ s.interruptLine = false ∧ s.ms = 0 ∧
    (∀ l, (s.line l).AtReset) ∧ (∀ l, (s.sched l).AtReset) ∧ (∀ n, s.node n = none) ∧ (∀ i, s.slot i = none) ∧
    (∀ p, s.poll p = none) ∧ (∀ q, (s.sq q).st = .absent) ∧
    (∀ c, (s.cq c).st = .absent ∧ (s.cq c).held = [] ∧ (s.cq c).count = 0 ∧ (s.cq c).timer = .stopped) ∧
    s.fetch = none ∧ s.fetchPosU = 7 ∧ s.fetchPosN = 7 ∧ s.writer = none ∧ s.writerPos = 3 ∧ s.noticeList = [] ∧
    s.noticeCq = 0 ∧ s.adminWork = none ∧ s.adminResult = none ∧ s.waiting = [] ∧ s.ready = [] ∧ s.BusFree

/-! ### Invariants -/

/-- Each source is on the pending-notice list at most once (R141). -/
def State.NoticesOnce (s : State) : Prop := s.noticeList.Nodup

/-- No two records share a key (R42). -/
def State.KeysUnique (s : State) : Prop :=
  ∀ n m r q, s.node n = some r → s.node m = some q → r.line = q.line → r.address = q.address → n = m

/-- A poll entry has at most one instance due or in flight (R110). -/
def State.OneInstance (s : State) : Prop := ∀ p e, s.poll p = some e → ¬(e.due = true ∧ e.inst.isSome = true)

/-- The slots held for a host SQ do not exceed its quota; an ABSENT descriptor has quota 0 (R66). -/
def State.QuotaKept (s : State) : Prop :=
  ∀ q : SqId, q ≠ 0 → s.occupied q ≤ (s.sq q).quota ∧ ((s.sq q).st = .absent → (s.sq q).quota = 0)

/-- A completion ring (R131, R134): the tail is the head plus the unreleased count, which does not exceed the size. -/
def Cq.Ring (d : Cq) : Prop :=
  2 ≤ d.size ∧ d.head < d.size ∧ d.tail = (d.head + d.unreleased) % d.size ∧ d.unreleased ≤ d.size

/-- Every CQ that is not ABSENT is a ring, the one being written has room, and in OFF none is written (R131, R134,
R136). -/
def State.RingsKept (s : State) : Prop :=
  (∀ c, (s.cq c).st ≠ .absent → (s.cq c).Ring) ∧
    (∀ e, s.writer = some e → (s.cq e.cq).st ≠ .absent ∧ (s.cq e.cq).unreleased < (s.cq e.cq).size) ∧
    (s.ctl = .off → s.writer = none)

/-- The driver is enabled in TX and in the sending phase of STARTING, and for the rest of a character that an aborting STOP
LINE found being sent, in OFF or in the guard wait of a STARTING that follows (R16, R38); nowhere else. The current attempt stands as the table of
R15 gives: absent in OFF, STARTING, IDLE, SETTLE and FAULT, present in TX, WAIT and RX (R15, R16). In IDLE and with an
attempt no broadcast quiet timer runs (R18, R23). -/
def Line.Sane (l : Line) : Prop :=
  (l.driver = true → l.st = .tx ∨ (l.st = .starting ∧ (l.phase = .sending ∨ (l.phase = .guardWait ∧ l.inChar = true))) ∨
      l.st = .off) ∧
    (l.st = .off ∨ l.st = .starting ∨ l.st = .idle ∨ l.st = .settle ∨ l.st = .fault → l.attempt = none) ∧
    (l.st = .tx ∨ l.st = .wait ∨ l.st = .rx → l.attempt ≠ none) ∧
    (l.st = .idle ∨ l.attempt ≠ none → l.quietOn = false)

/-- No bus-master write is outstanding or waiting (R181). -/
def State.NoWrites (s : State) : Prop := s.quWrites = [] ∧ s.adWrite = none ∧ s.nuWrite = none

/-- Every line is sane; and outside RUNNING and DRAINING nothing is written to host memory and no attempt is on any line
(R16, R178, R181). -/
def State.Quiet (s : State) : Prop :=
  (∀ l, (s.line l).Sane) ∧
    (s.ctl = .off ∨ s.ctl = .stopped ∨ s.ctl = .fatal → s.NoWrites ∧ ∀ l, (s.line l).attempt = none)

/-- The commands that end everything a slot holds or write its completion (R90, R91). -/
def mayEndHeld : Instr → Prop
  | .powerOn | .resetRequest | .registerWrite _ | .entryWriteDone => True
  | _ => False

/-- The commands in whose step a record's SEQ may change (R56): the end of a character, received or sent, and SET
NODE. -/
def mayMoveSeq : Instr → Prop
  | .characterReceived .. | .characterSent .. | .setNode _ => True
  | _ => False

/-- The changes of controller state and the commands that make them (R175). -/
def ctlMove (i : Instr) (a b : Ctl) : Prop :=
  match a, b with
  | .off, .running => i = .enableRequest ∨ ∃ w, i = .registerWrite w
  | .running, .draining => i = .drainRequest ∨ ∃ w, i = .registerWrite w
  | .running, .stopped => i = .drainRequest ∨ ∃ w, i = .registerWrite w
  | .draining, .stopped => i = .controllerStopped
  | .draining, .running => i = .enableRequest ∨ ∃ w, i = .registerWrite w
  | .stopped, .running => i = .enableRequest ∨ ∃ w, i = .registerWrite w
  | .running, .fatal => i = .entryWriteError
  | .draining, .fatal => i = .entryWriteError
  | _, .off => i = .powerOn ∨ i = .resetRequest ∨ ∃ w, i = .registerWrite w
  | _, _ => False

/-! ### The expiries of one tick (R182) -/

/-- Commands carried out one after another. -/
def runs : List Instr → State → Host.Outcome State Fault Refusal
  | [], s => .next s
  | i :: is, s =>
    match exec i s with
    | .next t => runs is t
    | o => o

/-- The rows of the expiries, in the order in which a tick takes them (the model's choice, log entry 2). -/
def expiryRows : List Instr :=
  (List.finRange 32).map .deadlineExpired ++ (List.finRange 128).map .holdOffEnd ++ (List.finRange 128).map .probeDue ++
    (List.finRange 64).map .periodExpiry ++ (List.finRange 4).map .aggregatorTimerExpired

/-! ### The host port -/

/-- A source joins the tail of the pending-notice list unless it is on it (R142). -/
def joined (l : List Source) (x : Source) : List Source := if x ∈ l then l else l ++ [x]

/-- A 32-bit write to a register. -/
def regWrite (offset : Nat) (w : Word) : Instr :=
  .registerWrite { write := true, offset := offset, width := .bits32, value := w }

/-- A 32-bit read of a register. -/
def regRead (offset : Nat) : Instr :=
  .registerWrite { write := false, offset := offset, width := .bits32, value := 0 }

/-! ### The admin unit around a command (R130, R154 to R156) -/

/-- A record read of SQ0 is in progress and nothing is in work, in RUNNING or DRAINING. -/
def State.Reading (s : State) : Prop :=
  (s.ctl = .running ∨ s.ctl = .draining) ∧ s.adRead ≠ none ∧ s.adminWork = none

/-- The state in which a command acts: the read is over and SQ0's head has advanced past the record (R130). -/
def State.taken (s : State) : State :=
  { s with adRead := none }.setSq 0 { s.sq 0 with head := ((s.sq 0).head + 1) % (s.sq 0).size }

/-- The command in work completes: its completion is the admin result and joins CQ0's held list (R154, R156). -/
def State.completes (s : State) (tag : Nat) (st : Status) (value : Nat) (h : Option Health) : State :=
  { s with
    adminWork := none
    adminResult := some { tag := tag, status := st, value := value, nodeState := h }
    cqs := s.cqs.set 0 { s.cq 0 with held := (s.cq 0).held ++ [HeldRef.admin] } }

/-- The command waits on its object (R153). -/
def State.waits (s : State) (tag : Nat) (x : Source) : State :=
  { s with waiting := s.waiting ++ [{ tag := tag, obj := x }] }

end Sys2Proof.Machine
end

