-- ==== Sys2Proof/Certificates/Slice0/Obligations.lean ====
section
/-! DEFINITION. The statements for the provers. -/

open Sys2Proof Sys2Proof.Machine

/-! ### The step -/

/-- A step runs the command at the front of the queue, with the queue's rest. -/
def Obligations.StepRunsTheFrontCommand : Prop :=
  ∀ (i : Instr) (rest : List Instr) (s : State),
    step { s with pending := i :: rest } = exec i { s with pending := rest }

/-- With no command waiting a step is a tick of a third of a microsecond (the model's choice, log entry 2). A controller that
is DRAINING and meets the conditions of STOPPED stops before time goes on (R178); the conditions are `stopDue`, with the
model's addition that no write to host memory is in progress (log entry 12). Otherwise a line with an attempt handed
over at this instant, the guard time already reached, enters TX (R21), and time goes on by a tick: the millisecond count in
every controller state (R182); on every line that is not OFF its bit phase, which runs free of the wire (log entry 5), and,
with each bit time, its timers (R18), the break timer where the wire is known to be at space (log entry 5); with each unit of
100 microseconds the elapsed time of every running delay timer, but in FATAL (R148, R151); and then each expiry whose time
the count has reached is taken (R182), as the rows of the expiries take it. That a tick lets time pass without making a
scheduler's choice (R103) or beginning other work that stands is the model's choice (log entry 2). Where none has come to its
time, nothing but timers and the timebase changes. -/
def Obligations.IdleStepIsATick : Prop :=
  ∀ s : State, s.pending = [] → s.thirds < 3000 →
    (s.ctl = .draining → s.stopDue = true → step s = step s.enterStopped) ∧
    (s.ctl ≠ .draining ∨ s.stopDue = false →
      ∃ u : State, u = { s with thirds := u.thirds, ms := u.ms, lines := u.lines, cqs := u.cqs } ∧
        u.thirds = (s.thirds + 1) % 3000 ∧ u.ms = s.ms + (if s.thirds = 2999 then 1 else 0) ∧
        (∀ l, u.line l =
          let y := s.line l
          let x :=
            if y.st = .guard ∧ y.attempt ≠ none ∧ y.waited = 0 ∧ y.quietOn = false ∧ y.inChar = false ∧ y.space = false ∧
                y.cfg.guardTime ≤ y.guardT then
              { y with st := .tx, driver := true, txPos := 0, inChar := true, charT := 0 }
            else y
          let n := (x.bitPhase + 1) / x.cfg.divisor
          let still := x.inChar = false ∧ x.space = false
          if x.st = .off then x
          else
            { x with
              bitPhase := (x.bitPhase + 1) % x.cfg.divisor
              guardT := if still then x.guardT + n else x.guardT
              gapT := if still then x.gapT + n else x.gapT
              respT := if x.st = .wait then x.respT + n else x.respT
              breakT := if x.space = true then x.breakT + n else x.breakT
              markT := x.markT + n
              charT := if x.inChar = true then x.charT + n else x.charT
              quietT := if x.quietOn = true then x.quietT + n else x.quietT
              sinceSent := x.sinceSent + n, waited := x.waited + n }) ∧
        (∀ c, u.cq c = { s.cq c with
          timer := match (s.cq c).timer with
            | .running e =>
              if s.ctl ≠ .fatal ∧ (s.thirds + 1) % 300 = 0 then .running (min 255 (e + 1))
              else if s.ctl = .fatal then .running e else .running (min 255 e)
            | t => t }) ∧
        step s = runs expiryRows u ∧
        ((∀ i x t d, u.slot i = some x → x.txn = some t → t.deadline = some d → msReached u.ms d = false) →
          (∀ n r d, u.node n = some r → (r.holdOffEnd = some d ∨ r.nextProbe = some d) → msReached u.ms d = false) →
          (∀ p e d, u.poll p = some e → e.nextDue = some d → msReached u.ms d = false) →
          (∀ c e, (u.cq c).timer = .running e → e < (u.cq c).delay) → step s = .next u))

/-- Every command is carried out and answers a next state, and none changes the queue of waiting commands. Both are the
model's choices: that a command whose event cannot arise changes nothing (log entry 1), and that there is a queue (log
entries 1 and 13). -/
def Obligations.EveryCommandKeepsTheQueue : Prop :=
  ∀ (i : Instr) (s : State), ∃ t, exec i s = .next t ∧ t.pending = s.pending

/-- The controller state changes by the table of R175 alone, where nothing is being written in OFF and STOPPED (which
QuietStaysKept shows to be kept). -/
def Obligations.ControllerStateMoves : Prop :=
  ∀ (i : Instr) (s t : State), s.Quiet → exec i s = .next t → t.ctl ≠ s.ctl → ctlMove i s.ctl t.ctl

/-! ### Resets, enabling, stopping -/

/-- Power-on returns the whole part to its reset values with the admin geometry registers at 0; a controller reset does the
same and keeps those registers (R182). That neither moves the level of a wire, so that a line of the part in OFF still has
its wire at space where it was, is the model's choice (log entry 5). -/
def Obligations.Resets : Prop :=
  ∀ s : State,
    let cut := fun y : Line => y.driver && (y.st == .off || y.st == .starting)
    let low := fun l : LineId =>
      let x := s.line l
      x.space || (x.inChar && !(x.st == .tx || (x.st == .starting && x.phase == .sending) || cut x))
    (∃ t, exec .powerOn s = .next t ∧ t.AtReset ∧ (∀ l, (t.line l).space = low l) ∧ t.asqBase = 0 ∧ t.acqBase = 0 ∧ t.adminSqSize = 0 ∧ t.adminCqSize = 0) ∧
    (∃ t, exec .resetRequest s = .next t ∧ t.AtReset ∧ (∀ l, (t.line l).space = low l) ∧ t.asqBase = s.asqBase ∧ t.acqBase = s.acqBase ∧
      t.adminSqSize = s.adminSqSize ∧ t.adminCqSize = s.adminCqSize)

/-- An enable request, in every controller state (R176, R179): in OFF the geometry is judged, and when it is valid SQ0 and
CQ0 are made with the start values of R140. A drain request in RUNNING moves the controller to DRAINING, or stops it at
once when the conditions of STOPPED hold; in any other state it does nothing (R177). The conditions are `stopDue`: those
of R178, and that no write to host memory is in progress, which is the model's addition (log entry 12). -/
def Obligations.EnableAndDrain : Prop :=
  ∀ s : State, (exec .enableRequest s = .next
    (match s.ctl with
    | .off =>
      if (2 ≤ s.adminSqSize.toNat ∧ s.adminSqSize.toNat ≤ 4096) ∧ (2 ≤ s.adminCqSize.toNat ∧ s.adminCqSize.toNat ≤ 4096) ∧
          s.asqBase.toNat % 64 = 0 ∧ s.acqBase.toNat % 16 = 0 then
        { (s.setSq 0
              { st := .active, base := s.asqBase, size := s.adminSqSize.toNat, head := 0, tail := 0, cq := 0,
                cls := .normal, quota := 0, error := none, noticeMark := false }).setCq 0
            { st := .active, base := s.acqBase, size := s.adminCqSize.toNat, head := 0, tail := 0, unreleased := 0,
              phase := true, irqEnable := false, threshold := 1, delay := 0, held := [], lastKind := .notice,
              error := none, noticeMark := false, count := 0, timer := .stopped, cause := false } with
          ctl := .running, configError := false, noticeCq := 0, answer := .written }
      else { s with configError := true, answer := .written }
    | .draining | .stopped => { s with ctl := .running, answer := .written }
    | .running | .fatal => { s with answer := .written })) ∧
    (s.ctl = .running → s.stopDue = false →
      exec .drainRequest s = .next { s with ctl := .draining, answer := .written }) ∧
    (s.ctl = .running → s.stopDue = true → exec .drainRequest s = .next { s.enterStopped with answer := .written }) ∧
    (s.ctl ≠ .running → exec .drainRequest s = .next { s with answer := .written })

/-- Entry to STOPPED (R178): the conditions; every poll instance in flight is withdrawn, its entry otherwise kept and due
again now; a node's open exchange becomes absent exactly where it names an entry of the node whose instance is withdrawn;
nothing else changes. Until the conditions hold, and in every state but DRAINING, the controller does not stop. That no
write to host memory is in progress is asked too (the model's reading, log entry 12). -/
def Obligations.EntryToStopped : Prop :=
  ∀ s : State,
    (s.ctl = .draining → (∀ i, s.slot i = none) → (∀ l, (s.line l).st = .idle ∨ (s.line l).st = .off) →
      s.adminWork = none → s.adRead = none → s.writer = none → s.NoWrites →
      ∃ t, exec .controllerStopped s = .next t ∧
        t = { s with ctl := .stopped, polls := t.polls, nodes := t.nodes } ∧
        (∀ p, s.poll p = none → t.poll p = none) ∧
        (∀ p e, s.poll p = some e → e.inst = none → t.poll p = some e) ∧
        (∀ p e, s.poll p = some e → e.inst ≠ none →
          t.poll p = some { e with due := false, inst := none, baseline := false, nextDue := some s.ms }) ∧
        (∀ n, s.node n = none → t.node n = none) ∧
        (∀ n r, s.node n = some r →
          ((∃ p e, s.poll p = some e ∧ e.node = n ∧ e.inst ≠ none ∧ r.openX = some (.poll p)) →
            t.node n = some { r with openX := none }) ∧
          ((∀ p e, s.poll p = some e → e.node = n → e.inst ≠ none → r.openX ≠ some (.poll p)) → t.node n = some r))) ∧
    ((s.ctl ≠ .draining ∨ (∃ i, s.slot i ≠ none) ∨ (∃ l, (s.line l).st ≠ .idle ∧ (s.line l).st ≠ .off) ∨
        s.adminWork ≠ none ∨ s.adRead ≠ none ∨ s.writer ≠ none) →
      exec .controllerStopped s = .next s)

/-! ### The register window -/

/-- A write to CONTROL, by the requests it carries; a read returns 0 (R184). -/
def Obligations.ControlRegister : Prop :=
  ∀ (s : State) (w : Word),
    exec (regWrite 0 w) s =
      (if w.getLsbD 2 then exec .resetRequest s
      else if w.getLsbD 0 && !w.getLsbD 1 then exec .enableRequest s
      else if w.getLsbD 1 && !w.getLsbD 0 then exec .drainRequest s
      else .next { s with answer := .written }) ∧
    exec (regRead 0) s = .next { s with answer := .value 0 }

/-- The other target accesses (R183, R190): a narrow or misaligned access in the window is answered with a bus error and
does nothing else; the geometry registers are written in OFF alone and read back; a write to STATUS is ignored; POST and
RELEASE read 0; STATUS and CAUSE read bit by bit. -/
def Obligations.RegisterWindow : Prop :=
  ∀ (s : State) (a : Access) (w : Word),
    (a.offset < 32 → (a.width ≠ .bits32 ∨ a.offset % 4 ≠ 0) →
      exec (.registerWrite a) s = .next { s with answer := .busError }) ∧
    exec (regWrite 4 w) s = .next { s with answer := .written } ∧
    exec (regWrite 8 w) s = .next { s with asqBase := if s.ctl = .off then w else s.asqBase, answer := .written } ∧
    exec (regWrite 12 w) s = .next { s with acqBase := if s.ctl = .off then w else s.acqBase, answer := .written } ∧
    exec (regWrite 16 w) s =
      .next { s with adminSqSize := if s.ctl = .off then w.extractLsb' 0 13 else s.adminSqSize,
                     adminCqSize := if s.ctl = .off then w.extractLsb' 16 13 else s.adminCqSize, answer := .written } ∧
    exec (regRead 8) s = .next { s with answer := .value s.asqBase } ∧
    exec (regRead 12) s = .next { s with answer := .value s.acqBase } ∧
    exec (regRead 16) s =
      .next { s with answer := .value (BitVec.ofNat 32 (s.adminSqSize.toNat + 65536 * s.adminCqSize.toNat)) } ∧
    exec (regRead 20) s = .next { s with answer := .value 0 } ∧
    exec (regRead 24) s = .next { s with answer := .value 0 } ∧
    ∃ st ca,
      exec (regRead 4) s = .next { s with answer := .value st } ∧
      exec (regRead 28) s = .next { s with answer := .value ca } ∧
      (st.extractLsb' 0 3).toNat =
        (match s.ctl with | .off => 0 | .running => 1 | .draining => 2 | .stopped => 3 | .fatal => 4) ∧
      (st.extractLsb' 4 2).toNat = (match s.fatalCause with | .noCause => 0 | .completionWrite => 1 | .noticeWrite => 2) ∧
      st.getLsbD 8 = s.configError ∧ (∀ k, k ≠ 0 → k ≠ 1 → k ≠ 2 → k ≠ 4 → k ≠ 5 → k ≠ 8 → st.getLsbD k = false) ∧
      (∀ c : CqId, ca.getLsbD c.val = (s.cq c).cause) ∧ ca.getLsbD 31 = s.fatalIrq ∧
      (∀ k, 4 ≤ k → k ≠ 31 → ca.getLsbD k = false) ∧
      (s.interruptLine = true ↔ (∃ c, (s.cq c).cause = true) ∨ s.fatalIrq = true)

/-- A write to POST (R125). -/
def Obligations.PostTaken : Prop :=
  ∀ (s : State) (w : Word), exec (.post w) s = .next
    (let tail := (w.extractLsb' 0 16).toNat
     let id := (w.extractLsb' 16 8).toNat
     if s.ctl = .off ∨ s.ctl = .fatal then { s with answer := .written }
     else if h : id < 8 then
       let q : SqId := ⟨id, h⟩
       if (s.sq q).st = .absent ∨ (s.sq q).st = .deleting then { s with answer := .written }
       else if tail < (s.sq q).size then { s.setSq q { s.sq q with tail := tail } with answer := .written }
       else
         { s.setSq q { s.sq q with st := .stalled, error := some .badPost, noticeMark := true } with
           noticeList := joined s.noticeList (.sq q), answer := .written }
     else { s with answer := .written })

/-- A write to RELEASE (R137). -/
def Obligations.ReleaseTaken : Prop :=
  ∀ (s : State) (w : Word), exec (.release w) s = .next
    (let head := (w.extractLsb' 0 16).toNat
     let id := (w.extractLsb' 16 8).toNat
     if s.ctl = .off ∨ s.ctl = .fatal then { s with answer := .written }
     else if h : id < 4 then
       let c : CqId := ⟨id, h⟩
       let n := (head + (s.cq c).size - (s.cq c).head) % (s.cq c).size
       if (s.cq c).st ≠ .active then { s with answer := .written }
       else if head < (s.cq c).size ∧ n ≤ (s.cq c).unreleased then
         { s.setCq c { s.cq c with head := head, unreleased := (s.cq c).unreleased - n } with answer := .written }
       else
         { s.setCq c { s.cq c with error := some .badRelease, noticeMark := true } with
           noticeList := joined s.noticeList (.cq c), answer := .written }
     else { s with answer := .written })

/-- A write to CAUSE acknowledges each CQ whose position is 1, in every controller state; the FATAL cause and every other
field stay (R150, R151). -/
def Obligations.CauseAcknowledged : Prop :=
  ∀ (s : State) (w : Word), ∃ t, exec (.causeAcknowledge w) s = .next t ∧
    t = { s with cqs := t.cqs, answer := .written } ∧
    ∀ c : CqId, t.cq c =
      if w.getLsbD c.val = true ∧ (s.cq c).st ≠ .absent then { s.cq c with cause := false, count := 0, timer := .stopped }
      else s.cq c

/-! ### Fetching -/

/-- FETCH_START (R67, R123, R126): a queue is taken exactly when one is eligible and the fetch engine is free, and nothing
changes otherwise; the queue taken is eligible, is URGENT when an URGENT queue is eligible, and no eligible
queue of its class comes between the class's position and it; the slot is the lowest-numbered FREE one, reserved in
FETCHING; the class's position takes the queue's id; the record read starts at base + 64 x head. That the slot holds tag 0
until its record is validated is the model's reading (log entry 9). -/
def Obligations.FetchStart : Prop :=
  ∀ s : State,
    let ok := fun (cls : SqClass) (p : SqId) =>
      p ≠ 0 ∧ s.ctl = .running ∧ (s.sq p).st = .active ∧ (s.sq p).cls = cls ∧ (s.sq p).head ≠ (s.sq p).tail ∧
        s.occupied p < (s.sq p).quota ∧ ∃ j, s.slot j = none
    (s.chooseSq = none ↔ ∀ cls p, ¬ok cls p) ∧
    (s.chooseSq = none ∨ s.fetch ≠ none → exec .fetchStart s = .next s) ∧
    ((∃ cls p, ok cls p) → ∃ q i, s.chooseSq = some q ∧ s.freeSlot = some i) ∧
    ∀ (q : SqId) (i : SlotId), s.chooseSq = some q → s.freeSlot = some i →
    let pos := match (s.sq q).cls with | .urgent => s.fetchPosU | .normal => s.fetchPosN
    ok (s.sq q).cls q ∧ ((s.sq q).cls = .normal → ∀ p, ¬ok .urgent p) ∧
      (∀ p, ok (s.sq q).cls p → (q.val + 6 - pos) % 7 ≤ (p.val + 6 - pos) % 7) ∧
      s.slot i = none ∧ (∀ j, j < i → s.slot j ≠ none) ∧
      (s.fetch = none → exec .fetchStart s = .next
        { s.setSlot i (some { st := .fetching, sq := q, cls := (s.sq q).cls, tag := 0, txn := none, settled := none }) with
          fetch := some { slot := i, sq := q, record := none }
          quRead := some { addr := (s.sq q).base + BitVec.ofNat 32 (64 * (s.sq q).head), len := 64 }
          fetchPosU := match (s.sq q).cls with | .urgent => q.val | .normal => s.fetchPosU
          fetchPosN := match (s.sq q).cls with | .urgent => s.fetchPosN | .normal => q.val })

/-- The record read succeeds (R67): a data read follows for an EXCHANGE or BROADCAST of request length 1 to 48, and
nothing else changes then; otherwise, and when the data read succeeds, the head advances and the record is judged. A read
error frees the slot and keeps the head, and stalls the queue with READ_ERROR and a notice, unless it is DELETING
(R127). -/
def Obligations.FetchReads : Prop :=
  ∀ (s : State) (i : SlotId) (q : SqId) (x : Slot) (b : BusRead) (r bytes : List Byte) (rec? : Option (List Byte)),
    s.slot i = some x → x.st = .fetching → s.quRead = some b →
    let after := { s with fetch := none, quRead := none }.setSq q
      { s.sq q with head := ((s.sq q).head + 1) % (s.sq q).size }
    let n := (byteAt r 7).toNat
    let reads := (byteAt r 0 = 0x01#8 ∨ byteAt r 0 = 0x02#8) ∧ 1 ≤ n ∧ n ≤ 48
    (s.fetch = some { slot := i, sq := q, record := none } → reads →
      exec (.fetchRecordReadDone r) s = .next
        { s with fetch := some { slot := i, sq := q, record := some r },
                 quRead := some { addr := u32At r 16, len := n } }) ∧
    (s.fetch = some { slot := i, sq := q, record := none } → ¬reads →
      exec (.fetchRecordReadDone r) s = .next (after.judge i q r [])) ∧
    (s.fetch = some { slot := i, sq := q, record := some r } → reads → bytes.length = n →
      exec (.fetchDataReadDone bytes) s = .next (after.judge i q r bytes)) ∧
    (s.fetch = some { slot := i, sq := q, record := rec? } →
      let freed := { s with fetch := none, quRead := none }.setSlot i none
      exec .fetchReadError s = .next
        (if (s.sq q).st = .deleting then freed
         else
          { freed.setSq q { s.sq q with st := .stalled, error := some .readError, noticeMark := true } with
            noticeList := joined s.noticeList (.sq q) }).closing)

/-- A record that fails a check enters HELD with the status of the first row of R72 that holds and the node state of R73,
and joins the held list of its queue's CQ; nothing else changes. Row 1 field by field: the kind, the line, the capacity,
the busy limit, the retry limit, and by kind the request length, the function and the address. The slot has taken the
record's fields as R68 gives (R65); where the kind or the line is none it has no transaction, which is the model's reading
(log entry 9). -/
def Obligations.RefusedRecord : Prop :=
  (∀ r : List Byte, recFieldBad r = true ↔
    (byteAt r 0 ≠ 0x01#8 ∧ byteAt r 0 ≠ 0x02#8 ∧ byteAt r 0 ≠ 0x03#8) ∨ 3 < (byteAt r 4).toNat ∨
      48 < (byteAt r 12).toNat ∨ 15 < (byteAt r 8).toNat ∨ ¬((byteAt r 9).toNat ≤ 7 ∨ (byteAt r 9).toNat = 15) ∨
      (byteAt r 0 = 0x01#8 ∧ (48 < (byteAt r 7).toNat ∨ ¬(1 ≤ (byteAt r 6).toNat ∧ (byteAt r 6).toNat ≤ 0x3B) ∨
        byteAt r 5 = 0x00#8 ∨ byteAt r 5 = 0xFF#8)) ∨
      (byteAt r 0 = 0x02#8 ∧ (48 < (byteAt r 7).toNat ∨
        ¬(1 ≤ (byteAt r 6).toNat ∧ (byteAt r 6).toNat ≤ 0x3B) ∧ byteAt r 6 ≠ 0x3F#8)) ∨
      (byteAt r 0 = 0x03#8 ∧ (byteAt r 5 = 0x00#8 ∨ byteAt r 5 = 0xFF#8))) ∧
  ∀ (s : State) (i : SlotId) (q : SqId) (x : Slot) (r data : List Byte) (st : Status) (h : Option Health),
    s.slot i = some x → x.sq = q →
    let l : Option LineId := if hl : (byteAt r 4).toNat < 4 then some ⟨(byteAt r 4).toNat, hl⟩ else none
    let k : Option Kind :=
      if byteAt r 0 = 0x01#8 then some .exchange else if byteAt r 0 = 0x02#8 then some .broadcast
      else if byteAt r 0 = 0x03#8 then some .discover else none
    let taken : Option Txn :=
      match k, l with
      | some k, some l => some
        { kind := k, line := l, address := if k = .broadcast then 0xFF#8 else byteAt r 5
          function := if k = .discover then 0x00#8 else byteAt r 6, data := if k = .discover then [] else data
          busyLimit := (byteAt r 8).toNat
          retry := if (byteAt r 9).toNat ≤ 7 then some (byteAt r 9).toNat else none
          deadline := if u16At r 10 = 0 then none else some (s.ms + BitVec.ofNat 32 (u16At r 10))
          buffer := u32At r 16, capacity := (byteAt r 12).toNat, seq := none, attempts := 0, busies := 0
          lastOut := none, lastHint := none, abortMark := false, latePass := false, detached := false }
      | _, _ => none
    let stopped := fun k : LineId => (s.line k).st = .off ∨ (s.line k).stopRequested = true
    (recFieldBad r = true ∧ st = .invalidField ∧ h = none ∨
      recFieldBad r = false ∧ ∃ k, l = some k ∧
        (byteAt r 0 = 0x03#8 ∧ (∃ n nd, s.node n = some nd ∧ nd.line = k ∧ nd.address = byteAt r 5) ∧
            st = .invalidField ∧ h = none ∨
         byteAt r 0 = 0x03#8 ∧ (∀ n nd, s.node n = some nd → ¬(nd.line = k ∧ nd.address = byteAt r 5)) ∧ stopped k ∧
            st = .lineStopped ∧ h = none ∨
         byteAt r 0 = 0x02#8 ∧ stopped k ∧ st = .lineStopped ∧ h = none ∨
         byteAt r 0 = 0x01#8 ∧ (∀ n nd, s.node n = some nd → nd.line = k → nd.address = byteAt r 5 → nd.removal = true) ∧
            st = .unknownNode ∧ h = none ∨
         byteAt r 0 = 0x01#8 ∧ ∃ n nd, s.findNode k (byteAt r 5) = some n ∧ s.node n = some nd ∧ nd.removal = false ∧
            (stopped k ∧ st = .lineStopped ∧ h = some nd.health ∨
             ¬stopped k ∧ nd.health = .disabled ∧ st = .nodeDisabled ∧ h = some .disabled ∨
             ¬stopped k ∧ nd.health = .offline ∧ st = .nodeOffline ∧ h = some .offline))) →
    s.judge i q r data =
      (s.setSlot i (some
        { x with tag := u16At r 2, txn := taken, st := .held,
                 settled := some { status := st, replyLen := 0, replyCode := 0, turn := 0, nodeState := h,
                                   abortLate := false, outcomeUnk := false } })).setCq (s.sq q).cq
        { s.cq (s.sq q).cq with held := (s.cq (s.sq q).cq).held ++ [HeldRef.slot i] }

/-- A record that passes every check (R68, R72, R74, R86). An EXCHANGE is PENDING at the tail of its node's pending list; a
BROADCAST, which holds address FFh, and a DISCOVER, which holds function 00h and no data, are PENDING at the tail of their
line's line list. When its queue is DELETING the record is HELD with ABORTED and attempts 0 instead; that an EXCHANGE then
reports its node's state is the model's reading (log entry 9). -/
def Obligations.AdmittedExchange : Prop :=
  (∀ (s : State) (i : SlotId) (q : SqId) (x : Slot) (r data : List Byte) (l : LineId) (n : NodeId) (nd : Node),
    s.slot i = some x → x.sq = q → recFieldBad r = false → byteAt r 0 = 0x01#8 → (byteAt r 4).toNat = l.val →
    s.findNode l (byteAt r 5) = some n → s.node n = some nd → nd.removal = false →
    nd.health ≠ .disabled → nd.health ≠ .offline → (s.line l).st ≠ .off → (s.line l).stopRequested = false →
    let t : Txn :=
      { kind := .exchange, line := l, address := byteAt r 5, function := byteAt r 6, data := data
        busyLimit := (byteAt r 8).toNat
        retry := if (byteAt r 9).toNat ≤ 7 then some (byteAt r 9).toNat else none
        deadline := if u16At r 10 = 0 then none else some (s.ms + BitVec.ofNat 32 (u16At r 10))
        buffer := u32At r 16, capacity := (byteAt r 12).toNat, seq := none, attempts := 0, busies := 0, lastOut := none
        lastHint := none, abortMark := false, latePass := false, detached := false }
    s.judge i q r data =
      if (s.sq q).st = .deleting then
        (s.setSlot i (some
          { x with tag := u16At r 2, txn := some t, st := .held,
                   settled := some { status := .aborted, replyLen := 0, replyCode := 0, turn := 0,
                                     nodeState := some nd.health, abortLate := false, outcomeUnk := false } })).setCq
          (s.sq q).cq { s.cq (s.sq q).cq with held := (s.cq (s.sq q).cq).held ++ [HeldRef.slot i] }
      else
        (s.setSlot i (some { x with tag := u16At r 2, txn := some t, st := .pending })).setNode n
          (some { nd with pendingList := nd.pendingList ++ [i] })) ∧
  (∀ (s : State) (i : SlotId) (q : SqId) (x : Slot) (r data : List Byte) (l : LineId) (k : Kind),
    s.slot i = some x → x.sq = q → recFieldBad r = false → (byteAt r 4).toNat = l.val →
    (k = .broadcast ∧ byteAt r 0 = 0x02#8 ∨
      k = .discover ∧ byteAt r 0 = 0x03#8 ∧
        (∀ n nd, s.node n = some nd → ¬(nd.line = l ∧ nd.address = byteAt r 5))) →
    (s.line l).st ≠ .off → (s.line l).stopRequested = false →
    let t : Txn :=
      { kind := k, line := l, address := if k = .broadcast then 0xFF#8 else byteAt r 5
        function := if k = .discover then 0x00#8 else byteAt r 6, data := if k = .discover then [] else data
        busyLimit := (byteAt r 8).toNat
        retry := if (byteAt r 9).toNat ≤ 7 then some (byteAt r 9).toNat else none
        deadline := if u16At r 10 = 0 then none else some (s.ms + BitVec.ofNat 32 (u16At r 10))
        buffer := u32At r 16, capacity := (byteAt r 12).toNat, seq := none, attempts := 0, busies := 0, lastOut := none
        lastHint := none, abortMark := false, latePass := false, detached := false }
    s.judge i q r data =
      if (s.sq q).st = .deleting then
        (s.setSlot i (some
          { x with tag := u16At r 2, txn := some t, st := .held,
                   settled := some { status := .aborted, replyLen := 0, replyCode := 0, turn := 0, nodeState := none,
                                     abortLate := false, outcomeUnk := false } })).setCq
          (s.sq q).cq { s.cq (s.sq q).cq with held := (s.cq (s.sq q).cq).held ++ [HeldRef.slot i] }
      else
        (s.setSlot i (some { x with tag := u16At r 2, txn := some t, st := .pending })).setSched l
          { s.sched l with lineList := (s.sched l).lineList ++ [i] })

/-- The record read of SQ0 begins when the admin unit is free and SQ0 has a record (R130, R153); its failure stalls SQ0
with READ_ERROR. A record of an unknown opcode is refused INVALID_FIELD with result value 0 and no node state, and changes
nothing else (R155, R156). -/
def Obligations.AdminFetch : Prop :=
  ∀ s : State,
    ((s.ctl = .running ∨ s.ctl = .draining) → (s.sq 0).st = .active → (s.sq 0).head ≠ (s.sq 0).tail →
      s.adminWork = none → s.adminResult = none → s.ready = [] → s.adRead = none →
      exec .adminFetchStart s = .next
        { s with adRead := some { addr := (s.sq 0).base + BitVec.ofNat 32 (64 * (s.sq 0).head), len := 64 } }) ∧
    ((s.ctl ≠ .running ∧ s.ctl ≠ .draining) ∨ (s.sq 0).st ≠ .active ∨ (s.sq 0).head = (s.sq 0).tail ∨
      s.adminWork ≠ none ∨ s.adminResult ≠ none ∨ s.ready ≠ [] → exec .adminFetchStart s = .next s) ∧
    (s.Reading → exec .adminReadError s = .next
      { { s with adRead := none }.setSq 0 { s.sq 0 with st := .stalled, error := some .readError, noticeMark := true } with
        noticeList := joined s.noticeList (.sq 0) }.closing) ∧
    (s.Reading → ∀ r, exec (.adminInvalidOpcode r) s =
      .next (s.taken.completes (u16At r 2) .invalidField 0 none).closing)

/-! ### Administrative commands -/

/-- CREATE CQ, TUNE CQ and SET NOTICE QUEUE, with every refusal in the order of its rule (R147, R149, R157, R159, R162). -/
def Obligations.CqCommands : Prop :=
  ∀ (s : State) (r : List Byte), s.Reading →
    let s1 := s.taken
    let tag := u16At r 2
    let id := (byteAt r 20).toNat
    let irq := (byteAt r 1).getLsbD 0
    let thr := (byteAt r 21).toNat
    let delay := (byteAt r 22).toNat
    let no := fun st => s1.completes tag st 0 none
    exec (.createCq r) s = .next
      (if h : id < 4 then
        let c : CqId := ⟨id, h⟩
        if id = 0 ∨ ¬(2 ≤ u16At r 28 ∧ u16At r 28 ≤ 4096) ∨ (u32At r 24).toNat % 16 ≠ 0 ∨ thr = 0 then no .invalidField
        else if (s.cq c).st ≠ .absent then no .invalidState
        else
          (s1.setCq c
            { st := .active, base := u32At r 24, size := u16At r 28, head := 0, tail := 0, unreleased := 0, phase := true,
              irqEnable := irq, threshold := thr, delay := delay, held := [], lastKind := .notice, error := none,
              noticeMark := false, count := 0, timer := .stopped, cause := false }).completes tag .ok id none
      else no .invalidField).closing ∧
    exec (.tuneCq r) s = .next
      (if h : id < 4 then
        let c : CqId := ⟨id, h⟩
        let d := s.cq c
        let timer := match d.timer with
          | .running e => if delay ≤ e then AggTimer.expired else .running e
          | t => t
        if thr = 0 then no .invalidField
        else if d.st = .absent then no .notFound
        else if d.st = .deleting then no .invalidState
        else
          (s1.setCq c
            { d with irqEnable := irq, threshold := thr, delay := delay, timer := timer,
                     cause := d.cause || (irq && (decide (thr ≤ d.count) || timer == .expired)) }).completes tag .ok id none
      else no .invalidField).closing ∧
    exec (.setNoticeQueue r) s = .next
      (if h : id < 4 then
        let c : CqId := ⟨id, h⟩
        if (s.cq c).st = .absent then no .notFound
        else if (s.cq c).st = .deleting then no .invalidState
        else { s1 with noticeCq := c }.completes tag .ok id none
      else no .invalidField).closing

/-- CREATE SQ, with every refusal in the order of its rule (R129, R160). -/
def Obligations.CreateSq : Prop :=
  ∀ (s : State) (r : List Byte), s.Reading →
    let s1 := s.taken
    let tag := u16At r 2
    let id := (byteAt r 20).toNat
    let no := fun st => s1.completes tag st 0 none
    exec (.createSq r) s = .next
      (if h : (id < 8 ∧ (byteAt r 21).toNat < 4) ∧ (byteAt r 22 = 0x00#8 ∨ byteAt r 22 = 0x01#8) then
        let q : SqId := ⟨id, h.1.1⟩
        let c : CqId := ⟨(byteAt r 21).toNat, h.1.2⟩
        if id = 0 ∨ (u32At r 24).toNat % 64 ≠ 0 ∨ ¬(2 ≤ u16At r 28 ∧ u16At r 28 ≤ 4096) ∨
            ¬(1 ≤ (byteAt r 23).toNat ∧ (byteAt r 23).toNat ≤ 32) then no .invalidField
        else if (s.sq q).st ≠ .absent then no .invalidState
        else if (s.cq c).st = .absent then no .notFound
        else if (s.cq c).st = .deleting then no .invalidState
        else
          (s1.setSq q
            { st := .active, base := u32At r 24, size := u16At r 28, head := 0, tail := 0, cq := c,
              cls := if byteAt r 22 = 0x00#8 then .normal else .urgent, quota := (byteAt r 23).toNat, error := none,
              noticeMark := false }).completes tag .ok id none
      else no .invalidField).closing

/-- DELETE CQ and DELETE SQ (R85, R131, R158, R161): the refusals in order; the queue enters DELETING; DELETE SQ aborts the
queue's transactions; the command completes at once when the condition already holds, and otherwise waits. -/
def Obligations.DeleteQueues : Prop :=
  ∀ (s : State) (r : List Byte), s.Reading →
    let s1 := s.taken
    let tag := u16At r 2
    let id := (byteAt r 20).toNat
    let no := fun st => s1.completes tag st 0 none
    exec (.deleteCq r) s = .next
      (if h : id < 4 then
        let c : CqId := ⟨id, h⟩
        if id = 0 then no .invalidField
        else if (s.cq c).st = .absent then no .notFound
        else if (s.cq c).st = .deleting then no .invalidState
        else if (∃ q, (s.sq q).st ≠ .absent ∧ (s.sq q).cq = c) ∨ s.noticeCq = c then no .inUse
        else if s.writer.map (·.cq) = some c then
          (s1.setCq c { s.cq c with st := .deleting }).waits tag (.cq c)
        else ((s1.setCq c { s.cq c with st := .deleting }).cqAbsent c).completes tag .ok id none
      else no .invalidField).closing ∧
    exec (.deleteSq r) s = .next
      (if h : id < 8 then
        let q : SqId := ⟨id, h⟩
        let s2 := ((s1.setSq q { s.sq q with st := .deleting }).slotsOf q).foldl State.abortSlot
          (s1.setSq q { s.sq q with st := .deleting })
        if id = 0 then no .invalidField
        else if (s.sq q).st = .absent then no .notFound
        else if (s.sq q).st = .deleting then no .invalidState
        else if ∃ i x, s.slot i = some x ∧ x.sq = q then s2.waits tag (.sq q)
        else (s2.sqAbsent q).completes tag .ok id none
      else no .invalidField).closing

/-- CONFIGURE LINE and START LINE, with every refusal in order (R17, R36, R163, R164), and the poll entries that resume as
the line enters STARTING (R118): a SUSPENDED one without the removal mark whose node is in service is ACTIVE, due now, with
an invalid baseline; every other entry, and every node's open exchange, is as it was. The line starts with its timers at 0
(R18, R36) and its wire as it stands: at space, the break timer counts from there (IdleStepIsATick). A character that STOP LINE
cut and that is still being sent is in progress (R18, R38). That OFF keeps the level of the wire is the model's choice (log
entry 5). -/
def Obligations.LineSettingCommands : Prop :=
  (∀ (s : State) (l : LineId), ∃ v, s.resumeLine l = v ∧ v = { s with polls := v.polls } ∧
    (∀ p, s.poll p = none → v.poll p = none) ∧
    ∀ p e, s.poll p = some e →
      let back := e.st = .suspended ∧ e.removal = false ∧ ∃ r, s.node e.node = some r ∧ r.line = l ∧
        (r.health = .unknown ∨ r.health = .online ∨ r.health = .suspect)
      (back → v.poll p = some { e with st := .active, nextDue := some s.ms, baseline := false }) ∧
      (¬back → v.poll p = some e)) ∧
  ∀ (s : State) (r : List Byte), s.Reading →
    let s1 := s.taken
    let tag := u16At r 2
    let id := (byteAt r 4).toNat
    let no := fun st => s1.completes tag st 0 none
    let cfg : LineCfg :=
      { divisor := u16At r 20, stopBits := (byteAt r 22).toNat, guardTime := (byteAt r 23).toNat
        gapLimit := (byteAt r 24).toNat, retryLimit := (byteAt r 25).toNat, offThresh := (byteAt r 26).toNat
        respLimit := u16At r 28, probeIval := u16At r 30, busyHold := u16At r 32, quietTime := u16At r 34 }
    let good := 1 ≤ cfg.divisor ∧ (cfg.stopBits = 1 ∨ cfg.stopBits = 2) ∧ 2 ≤ cfg.guardTime ∧
      (1 ≤ cfg.gapLimit ∧ cfg.gapLimit ≤ 15) ∧ 100 ≤ cfg.respLimit ∧ cfg.retryLimit ≤ 7 ∧
      (1 ≤ cfg.offThresh ∧ cfg.offThresh ≤ 15) ∧ (10 ≤ cfg.probeIval ∧ cfg.probeIval ≤ 60000) ∧
      (1 ≤ cfg.busyHold ∧ cfg.busyHold ≤ 2550)
    exec (.configureLine r) s = .next
      (if h : id < 4 then
        let l : LineId := ⟨id, h⟩
        if ¬good then no .invalidField
        else if (s.line l).st ≠ .off then no .invalidState
        else (s1.setLine l { s.line l with cfg := cfg }).completes tag .ok id none
      else no .invalidField).closing ∧
    exec (.startLine r) s = .next
      (if h : id < 4 then
        let l : LineId := ⟨id, h⟩
        if (s.line l).st ≠ .off then no .invalidState
        else
          let x :=
            { Line.offWith (s.line l).cfg (s.line l).transitions (s.line l).space with
              st := .starting, driver := (s.line l).driver, inChar := (s.line l).driver }
          ((s1.setLine l x).resumeLine l).completes tag .ok id none
      else no .invalidField).closing

/-- STOP LINE in both forms, with every refusal in order (R37, R38, R88, R165, R166): the draining form sets the mark and
completes at once or waits; the aborting form ends the attempt and everything PENDING on the line, leaves it OFF with its
configuration and transitions count (R39, R91), and completes; every other line is as it was. The order of R88: the
transaction whose attempt is in progress, LINE_STOPPED with OUTCOME_UNKNOWN when a character of its request was sent
(TX, WAIT or RX); the line list; the pending lists by ascending node index; each in list order, LINE_STOPPED with
OUTCOME_UNKNOWN clear. On entry to OFF the line's ACTIVE poll entries without the removal mark are withdrawn and SUSPENDED,
and a node's open exchange that names one of their instances becomes absent (R116, R117). A poll
instance cut short ends with LINE_STOPPED and an invalid baseline (R112), a withdrawn one clears its running mark (R116), a probe is put off (R59). A line stopped in TX or in the sending phase of STARTING is
OFF with its driver enabled until the character being sent ends (R16, R38, R166; UnsolicitedCharacters). The model's choices: a
form that is neither of the two comes with the draining row (log entry 4); records and entries whose removal waits are
closed in their place before a waiting draining stop of the line (log entry 3); a settled transaction whose reply data are
being written stays ACTIVE with the line that the aborting form takes OFF, as R88 says (log entry 5), and with the line that
the draining form takes OFF at the four conditions of R37, although R91 has that form wait for it (log entry 18); the line in
OFF keeps the level of its wire (log entry 5); slots that complete stand on CQ0's held list before the command's own result
(log entry 17). -/
def Obligations.StopLine : Prop :=
  (∀ (s : State) (l : LineId), ∃ v, s.suspendLine l = v ∧ v = { s with polls := v.polls, nodes := v.nodes } ∧
    (∀ p, s.poll p = none → v.poll p = none) ∧
    (∀ p e, s.poll p = some e →
      let goes := e.st = .active ∧ e.removal = false ∧ ∃ r, s.node e.node = some r ∧ r.line = l
      (goes → v.poll p = some
        { e with st := .suspended, due := false, inst := none, baseline := false, nextDue := none }) ∧
      (¬goes → v.poll p = some e)) ∧
    (∀ n, s.node n = none → v.node n = none) ∧
    ∀ n r, s.node n = some r →
      let freed := r.line = l ∧ ∃ p e, s.poll p = some e ∧ e.node = n ∧ e.st = .active ∧ e.removal = false ∧
        e.inst ≠ none ∧ r.openX = some (.poll p)
      (freed → v.node n = some { r with openX := none }) ∧ (¬freed → v.node n = some r)) ∧
  (∀ (s : State) (l : LineId),
    let cut := fun y : Line => y.driver && (y.st == .off || y.st == .starting)
    let low := fun x : Line => x.space || (x.inChar && !(x.st == .tx || (x.st == .starting && x.phase == .sending) || cut x))
    let pend := fun (t : State) (i : SlotId) =>
      if t.isPending i then t.complete i .lineStopped 0 0 false else t
    let sent := decide ((s.line l).st = .tx ∨ (s.line l).st = .wait ∨ (s.line l).st = .rx)
    let freed := s.setLine l { s.line l with attempt := none }
    let s1 := match (s.line l).attempt with
      | some a => freed.cutShort a sent
      | none => s
    let s2 := (s1.sched l).lineList.foldl pend s1
    let s3 := allNodes.foldl (fun t n =>
      match t.node n with
      | some r => if r.line = l then r.pendingList.foldl pend t else t
      | none => t) s2
    let s4 := (((s3.waiting.map (·.obj)).takeWhile (· != .line l)).filter fun x =>
      match x with | .node _ => true | .poll _ => true | _ => false).foldl State.closeObj s3
    s.abortLine l =
      ((s4.setLine l { Line.offWith (s4.line l).cfg (s4.line l).transitions (low (s4.line l)) with
        driver := (s4.line l).driver }).suspendLine l).makeReady (.line l)) ∧
  (∀ (s : State) (a : Attempt) (sent : Bool),
    (∀ i x, a.owner = .slot i → s.slot i = some x →
      (x.st = .active → x.settled = none → s.cutShort a sent = s.complete i .lineStopped 0 0 sent) ∧
      (x.st ≠ .active ∨ x.settled ≠ none → s.cutShort a sent = s)) ∧
    (∀ n r, a.owner = .probe n → s.node n = some r → r.health = .offline → r.removal = false →
      s.cutShort a sent = s.setNode n (some
        { r with nextProbe := some (s.ms + BitVec.ofNat 32 (s.line r.line).cfg.probeIval), probeDue := false
                 promoted := false })) ∧
    (∀ p e, a.owner = .poll p → s.poll p = some e →
      (e.inst ≠ none → s.cutShort a sent =
        (s.setPoll p (some
          { e with inst := none, running := false, lastResult := some .lineStopped, baseline := false })).setNode e.node
          ((s.node e.node).map fun r => { r with openX := if r.openX = some (.poll p) then none else r.openX })) ∧
      (e.inst = none → s.cutShort a sent = s.setPoll p (some { e with running := false })))) ∧
  ∀ (s : State) (r : List Byte), s.Reading →
    let s1 := s.taken
    let tag := u16At r 2
    let id := (byteAt r 4).toNat
    let no := fun st => s1.completes tag st 0 none
    exec (.stopLineDraining r) s = .next
      (if h : id < 4 then
        let l : LineId := ⟨id, h⟩
        let s2 := s1.setLine l { s.line l with stopRequested := true }
        if byteAt r 1 ≠ 0x00#8 then no .invalidField
        else if (s.line l).st = .off then no .invalidState
        else if (s.line l).stopRequested = true then no .invalidState
        else if (s.line l).attempt = none ∧ (s.sched l).lineList = [] ∧
            (∀ n nd, s.node n = some nd → nd.line = l → nd.pendingList = []) ∧
            ((s.line l).st = .idle ∨ (s.line l).st = .guard ∨ (s.line l).st = .settle ∨ (s.line l).st = .fault) then
          (s2.lineOff l).completes tag .ok id none
        else s2.waits tag (.line l)
      else no .invalidField).closing ∧
    exec (.stopLineAborting r) s = .next
      (if h : id < 4 then
        let l : LineId := ⟨id, h⟩
        if (s.line l).st = .off then no .invalidState
        else (s1.abortLine l).completes tag .ok id none
      else no .invalidField).closing ∧
    (∀ l : LineId, (∀ i x, s.slot i = some x → x.st = .pending → x.txn ≠ none) →
      (let x := s.line l
       let cut := fun y : Line => y.driver && (y.st == .off || y.st == .starting)
       (s1.abortLine l).line l = { Line.offWith x.cfg x.transitions
         (x.space || (x.inChar && !(x.st == .tx || (x.st == .starting && x.phase == .sending) || cut x))) with
         driver := x.driver }) ∧
      (∀ k, k ≠ l → (s1.abortLine l).line k = s.line k) ∧
      (∀ i, i ∈ ((s1.abortLine l).sched l).lineList → (s1.abortLine l).isPending i = false) ∧
      (∀ n nd, (s1.abortLine l).node n = some nd → nd.line = l → ∀ i ∈ nd.pendingList,
        (s1.abortLine l).isPending i = false))

/-- SET NODE (R41, R42, R45, R46, R54, R167): the refusals in order; creation at the lowest VACANT index; update of the
three settings; the enable request on a DISABLED record, the disable request on another. What the enable request does to
the node's poll entries (R118): unless the line is OFF, the SUSPENDED ones without the removal mark are ACTIVE, due now, with
an invalid baseline. That slots which a disabling completes stand on CQ0's held list before the command's own result is the
model's choice (log entry 17). -/
def Obligations.SetNode : Prop :=
  (∀ (s : State) (n : NodeId) (nd : Node), s.node n = some nd →
    ∃ v, s.resumeNode n = v ∧ v = { s with polls := v.polls } ∧ (∀ p, s.poll p = none → v.poll p = none) ∧
    ∀ p e, s.poll p = some e →
      let back := (s.line nd.line).st ≠ .off ∧ e.node = n ∧ e.st = .suspended ∧ e.removal = false
      (back → v.poll p = some { e with st := .active, nextDue := some s.ms, baseline := false }) ∧
      (¬back → v.poll p = some e)) ∧
  ∀ (s : State) (r : List Byte), s.Reading →
    let s1 := s.taken
    let tag := u16At r 2
    let no := fun st => s1.completes tag st 0 none
    let disable := (byteAt r 1).getLsbD 0
    let resp := u16At r 20
    let retry := (byteAt r 22).toNat
    let thresh := (byteAt r 23).toNat
    exec (.setNode r) s = .next
      (if h : (byteAt r 4).toNat < 4 then
        let l : LineId := ⟨(byteAt r 4).toNat, h⟩
        if byteAt r 5 = 0x00#8 ∨ byteAt r 5 = 0xFF#8 ∨ (1 ≤ resp ∧ resp ≤ 99) ∨ ¬(retry ≤ 7 ∨ retry = 15) ∨ 15 < thresh then
          no .invalidField
        else
          match s.findNode l (byteAt r 5) with
          | some n =>
            match s.node n with
            | some nd =>
              let nd1 := { nd with respLimit := resp, retryLimit := retry, offThresh := thresh }
              let s2 := s1.setNode n (some nd1)
              if nd.removal = true then no .invalidState
              else if disable = true ∧ nd.health ≠ .disabled then
                (s2.disableNode n).completes tag .ok n.val (((s2.disableNode n).node n).map (·.health))
              else if disable = false ∧ nd.health = .disabled then
                ((s2.setNode n (some { nd1 with health := .unknown, seq := false, failures := 0 })).resumeNode n).completes
                  tag .ok n.val (some .unknown)
              else s2.completes tag .ok n.val (some nd.health)
            | none => no .invalidState
          | none =>
            match allNodes.find? fun n => (s.node n).isNone with
            | some n =>
              (s1.setNode n (some
                { line := l, address := byteAt r 5, health := if disable then .disabled else .unknown, seq := false
                  respLimit := resp, retryLimit := retry, offThresh := thresh, failures := 0, openX := none
                  holdOffEnd := none, nextProbe := none, lastTurn := 0, maxTurn := 0, successes := 0, silents := 0
                  pendingList := [], noticeMark := false, transitions := 0, removal := false, probeDue := false
                  promoted := false })).completes tag .ok n.val (some (if disable then .disabled else .unknown))
            | none => no .tableFull
      else no .invalidField).closing

/-- A record that enters DISABLED (R53, R87) keeps its SEQ, failure count, counts and turnarounds, has no open exchange,
hold-off or probe time, and no transaction on its list; each that was PENDING is HELD with NODE_DISABLED and zeros and has
joined its queue's CQ in list order; one with an attempt running has its detached mark and stays ACTIVE; no other slot
changes. The node's poll entries are not ACTIVE, but for those on their way out; nothing becomes pending as a notice
source. That a slot completed so reports the state DISABLED is R89's state at that moment, the record's state changing
first, which is the model's reading (log entry 9). -/
def Obligations.DisabledNode : Prop :=
  ∀ (s : State) (n : NodeId) (nd : Node), s.KeysUnique → s.node n = some nd → nd.pendingList.Nodup →
    (∀ i ∈ nd.pendingList, ∃ x t, s.slot i = some x ∧ x.txn = some t ∧ t.kind = .exchange ∧ t.line = nd.line ∧
      t.address = nd.address ∧ (x.st = .pending ∨ (x.st = .active ∧ x.settled = none))) →
    ∃ nd', (s.disableNode n).node n = some nd' ∧ nd'.health = .disabled ∧ nd'.pendingList = [] ∧ nd'.openX = none ∧
      nd'.holdOffEnd = none ∧ nd'.nextProbe = none ∧ nd'.seq = nd.seq ∧ nd'.failures = nd.failures ∧
      nd'.successes = nd.successes ∧ nd'.silents = nd.silents ∧ nd'.lastTurn = nd.lastTurn ∧ nd'.maxTurn = nd.maxTurn ∧
      nd'.transitions = nd.transitions ∧
      (∃ u, s.disableNode n = u ∧
        u = { s with nodes := u.nodes, slots := u.slots, cqs := u.cqs, polls := u.polls } ∧
        (∀ i x t, i ∈ nd.pendingList → s.slot i = some x → x.txn = some t →
          (x.st = .pending → u.slot i = some { x with
            st := .held
            settled := some { status := .nodeDisabled, replyLen := 0, replyCode := 0, turn := 0,
                              nodeState := some .disabled, abortLate := false, outcomeUnk := false } }) ∧
          (x.st = .active → u.slot i = some { x with txn := some { t with detached := true } })) ∧
        (∀ i, i ∉ nd.pendingList → u.slot i = s.slot i) ∧
        ∀ c, u.cq c = { s.cq c with
          held := (s.cq c).held ++ (nd.pendingList.filter fun i =>
            match s.slot i with
            | some x => x.st == .pending && (s.sq x.sq).cq == c
            | none => false).map HeldRef.slot }) ∧
      (∀ p e, (s.disableNode n).poll p = some e → e.node = n → e.removal = false → e.st ≠ .active)

/-- REMOVE NODE (R47, R168): the refusals in order; the removal mark, and an abort of each transaction on the record's
list in list order; VACANT at once when nothing is left, else it waits. That the slots it aborts stand on CQ0's held list
before the command's own result is the model's choice (log entry 17). -/
def Obligations.RemoveNode : Prop :=
  ∀ (s : State) (r : List Byte), s.Reading →
    let s1 := s.taken
    let tag := u16At r 2
    let no := fun st => s1.completes tag st 0 none
    exec (.removeNode r) s = .next
      (if h : (byteAt r 4).toNat < 4 then
        let l : LineId := ⟨(byteAt r 4).toNat, h⟩
        if byteAt r 5 = 0x00#8 ∨ byteAt r 5 = 0xFF#8 then no .invalidField
        else
          match s.findNode l (byteAt r 5) with
          | none => no .notFound
          | some n =>
            match s.node n with
            | none => no .notFound
            | some nd =>
              let s2 := nd.pendingList.foldl State.abortSlot (s1.setNode n (some { nd with removal := true }))
              if nd.removal = true then no .invalidState
              else if ∃ p e, s.poll p = some e ∧ e.node = n then no .inUse
              else if s2.vacantDue n = true then (s2.nodeVacant n).completes tag .ok n.val none
              else s2.waits tag (.node n)
      else no .invalidField).closing

/-- READ NODE and the end of its image write (R62, R169, R189): the refusals in order; the 68-byte image of the record as it
stands, byte by byte; the clear option, undone when the write fails. -/
def Obligations.ReadNode : Prop :=
  (∀ (n : NodeId) (r : Node), (nodeImage n r).length = 68 ∧
    (nodeImage n r).take 36 =
      [le8 n.val, le8 r.line.val, r.address,
        match r.health with | .unknown => 0x01 | .online => 0x02 | .suspect => 0x03 | .offline => 0x04 | .disabled => 0x05,
        if r.seq then 1 else 0, le8 r.retryLimit, le8 r.offThresh, le8 r.failures, le8 r.respLimit,
        le8 (r.respLimit / 256),
        le8 ((if r.holdOffEnd = none then 0 else 1) + (if r.nextProbe = none then 0 else 2) +
          (if r.openX = none then 0 else 4) + (if r.noticeMark then 8 else 0) + (if r.removal then 16 else 0)),
        match r.openX with | none => 0xFF | some (.slot i) => le8 i.val | some (.poll p) => le8 (64 + p.val),
        le8 r.transitions, le8 r.pendingList.length, 0, 0] ++ le32 (r.holdOffEnd.getD 0).toNat ++
      le32 (r.nextProbe.getD 0).toNat ++
      [le8 r.lastTurn, le8 (r.lastTurn / 256), le8 r.maxTurn, le8 (r.maxTurn / 256)] ++ le32 r.successes ++
      le32 r.silents ∧
    ∀ k, k < 32 → byteAt (nodeImage n r) (36 + k) = match r.pendingList[k]? with | some i => le8 i.val | none => 0xFF) ∧
  (∀ (s : State) (r : List Byte), s.Reading →
    let s1 := s.taken
    let tag := u16At r 2
    let no := fun st => s1.completes tag st 0 none
    exec (.readNode r) s = .next
      (if h : (byteAt r 4).toNat < 4 then
        let l : LineId := ⟨(byteAt r 4).toNat, h⟩
        if byteAt r 5 = 0x00#8 ∨ byteAt r 5 = 0xFF#8 then no .invalidField
        else
          match s.findNode l (byteAt r 5) with
          | none => no .notFound
          | some n =>
            match s.node n with
            | none => no .notFound
            | some nd =>
              if (byteAt r 1).getLsbD 0 then
                { s1.setNode n (some { nd with maxTurn := 0, successes := 0, silents := 0 }) with
                  adWrite := some { addr := u32At r 16, data := nodeImage n nd, use := .image }
                  adminWork := some (.readNode tag n nd.health (some (nd.maxTurn, nd.successes, nd.silents))) }
              else
                { s1.setNode n (some nd) with
                  adWrite := some { addr := u32At r 16, data := nodeImage n nd, use := .image }
                  adminWork := some (.readNode tag n nd.health none) }
      else no .invalidField).closing) ∧
  (∀ (s : State) (tag : Nat) (n : NodeId) (h : Health) (c : Option (Nat × Nat × Nat)) (w : BusWrite),
    s.adminWork = some (.readNode tag n h c) → s.adWrite = some w →
    exec (.readNodeImageWriteDone .accepted) s =
      .next ({ s with adWrite := none }.completes tag .ok n.val (some h)).closing ∧
    exec (.readNodeImageWriteDone .error) s =
      .next (({ s with adWrite := none }.setNode n ((s.node n).map fun nd =>
        match c with
        | none => nd
        | some (m, su, si) =>
          { nd with maxTurn := max nd.maxTurn m, successes := min 4294967295 (nd.successes + su),
                    silents := min 4294967295 (nd.silents + si) })).completes tag .hostWriteError n.val (some h)).closing)

/-- ADD POLL and the end of its data read (R108, R170): the refusals in order; the entry's start values; ACTIVE and due now
when its node is in service and its line is not OFF, SUSPENDED otherwise; the compare set is bytes 24 to 29 of the record,
reply position p at bit p mod 8 of byte 24 + p div 8 (R187). -/
def Obligations.AddPoll : Prop :=
  let compareSet := fun r : List Byte =>
    BitVec.ofNat 48 ((byteAt r 24).toNat + 256 * (byteAt r 25).toNat + 65536 * (byteAt r 26).toNat +
      16777216 * (byteAt r 27).toNat + 4294967296 * (byteAt r 28).toNat + 1099511627776 * (byteAt r 29).toNat)
  let entry := fun (s : State) (np : NewPoll) (data : List Byte) =>
    let on := decide (∃ nd, s.node np.node = some nd ∧
      (nd.health = .unknown ∨ nd.health = .online ∨ nd.health = .suspect) ∧ (s.line nd.line).st ≠ .off)
    s.setPoll np.id (some
      { node := np.node, function := np.function, data := data, period := np.period, compare := np.compare
        buffer := np.buffer, st := if on then .active else .suspended, nextDue := if on then some s.ms else none
        due := false, inst := none, running := false, baseline := false, stored := [], change := false
        lastResult := none, missed := 0, removal := false })
  (∀ (s : State) (r : List Byte), s.Reading →
    let s1 := s.taken
    let tag := u16At r 2
    let no := fun st => s1.completes tag st 0 none
    exec (.addPoll r) s = .next
      (if h : (byteAt r 20).toNat < 64 then
        let p : PollId := ⟨(byteAt r 20).toNat, h⟩
        if ¬(1 ≤ (byteAt r 6).toNat ∧ (byteAt r 6).toNat ≤ 0x3B) ∨ 16 < (byteAt r 7).toNat ∨ u16At r 22 < 10 then
          no .invalidField
        else if s.poll p ≠ none then no .inUse
        else if hl : (byteAt r 4).toNat < 4 then
          match s.findNode ⟨(byteAt r 4).toNat, hl⟩ (byteAt r 5) with
          | none => no .notFound
          | some n =>
            let np : NewPoll :=
              { id := p, node := n, function := byteAt r 6, reqLen := (byteAt r 7).toNat, period := u16At r 22
                compare := compareSet r, buffer := u32At r 32 }
            if ∃ nd, s.node n = some nd ∧ nd.removal = false then
              if (byteAt r 7).toNat = 0 then (entry s1 np []).completes tag .ok p.val none
              else
                { s1 with adRead := some { addr := u32At r 16, len := (byteAt r 7).toNat }
                          adminWork := some (.addPoll tag np) }
            else no .notFound
        else no .notFound
      else no .invalidField).closing) ∧
  (∀ (r : List Byte) (p : Nat), p < 48 → (compareSet r).getLsbD p = (byteAt r (24 + p / 8)).getLsbD (p % 8)) ∧
  (∀ (s : State) (tag : Nat) (np : NewPoll) (b : BusRead) (bytes : List Byte),
    s.adminWork = some (.addPoll tag np) → s.adRead = some b → bytes.length = np.reqLen →
    exec (.addPollDataReadDone (.data bytes)) s =
      .next ((entry { s with adRead := none } np bytes).completes tag .ok np.id.val none).closing ∧
    exec (.addPollDataReadDone .error) s =
      .next ({ s with adRead := none }.completes tag .hostReadError np.id.val none).closing)

/-- REMOVE POLL, READ POLL and the end of its image write (R116, R120, R121, R171, R172, R188, R189): the 96-byte image, byte
by byte, with the status and outcome codes of R188. -/
def Obligations.RemoveAndReadPoll : Prop :=
  (∀ (p : PollId) (e : Poll),
    let code := fun st : Status =>
      match st with
      | .ok => (0x00 : Byte) | .dataTruncated => 0x01 | .rejected => 0x02 | .noReply => 0x03 | .checkError => 0x04
      | .truncated => 0x05 | .lineError => 0x06 | .clash => 0x07 | .lineFault => 0x08 | .nodeBusy => 0x09
      | .nodeOffline => 0x0A | .nodeDisabled => 0x0B | .unknownNode => 0x0C | .invalidField => 0x0D | .expired => 0x0E
      | .aborted => 0x0F | .lineStopped => 0x10 | .hostWriteError => 0x11 | .invalidState => 0x20 | .inUse => 0x21
      | .notFound => 0x22 | .tableFull => 0x23 | .hostReadError => 0x24
    let outcome := fun o : Outcome =>
      match o with
      | .timeout => (0x01 : Byte) | .checkError => 0x02 | .truncated => 0x03 | .charError => 0x04 | .clash => 0x05
      | .fault => 0x06 | .replyOk => 0x07 | .replyReject => 0x08 | .replyBusy => 0x09
    (pollImage p e).length = 96 ∧
    (pollImage p e).take 32 =
      [le8 p.val, le8 e.node.val, e.function, le8 e.data.length,
        match e.st with | .active => 0x01 | .suspended => 0x02 | .faulted => 0x03,
        le8 ((if e.due then 1 else 0) + (if e.inst = none then 0 else 2) + (if e.running then 4 else 0) +
          (if e.baseline then 8 else 0) + (if e.change then 16 else 0) + (if e.removal then 32 else 0) +
          (if e.nextDue = none then 0 else 64)),
        match e.lastResult with | none => 0xFF | some st => code st,
        le8 e.missed, le8 e.period, le8 (e.period / 256), le8 e.stored.length] ++
      (match e.inst with
        | none => [0, 0, 0, 0xFF]
        | some k => [le8 k.attempts, if k.seq then 1 else 0, le8 k.retry,
            match k.lastOut with | none => 0xFF | some o => outcome o]) ++ [0] ++
      le32 (e.nextDue.getD 0).toNat ++ le32 e.buffer.toNat ++
      [le8 e.compare.toNat, le8 (e.compare.toNat / 256), le8 (e.compare.toNat / 65536),
        le8 (e.compare.toNat / 16777216), le8 (e.compare.toNat / 4294967296), le8 (e.compare.toNat / 1099511627776), 0,
        0] ∧
    (∀ k, k < 16 → byteAt (pollImage p e) (32 + k) = e.data.getD k 0) ∧
    (∀ k, k < 48 → byteAt (pollImage p e) (48 + k) = e.stored.getD k 0)) ∧
  (∀ (s : State) (r : List Byte), s.Reading →
    let s1 := s.taken
    let tag := u16At r 2
    let no := fun st => s1.completes tag st 0 none
    exec (.removePoll r) s = .next
      (if h : (byteAt r 20).toNat < 64 then
        let p : PollId := ⟨(byteAt r 20).toNat, h⟩
        match s.poll p with
        | none => no .notFound
        | some e =>
          let s2 := ((s1.withdraw p).unpend (.poll p)).setPoll p (some
            { e with due := false, inst := none, baseline := false, nextDue := none, change := false, removal := true })
          if e.removal = true then no .notFound
          else if e.running = true then s2.waits tag (.poll p)
          else (s2.pollEmpty p).completes tag .ok p.val none
      else no .invalidField).closing ∧
    exec (.readPoll r) s = .next
      (if h : (byteAt r 20).toNat < 64 then
        let p : PollId := ⟨(byteAt r 20).toNat, h⟩
        match s.poll p with
        | none => no .notFound
        | some e =>
          { s1.setPoll p (some { e with missed := 0 }) with
            adWrite := some { addr := u32At r 16, data := pollImage p e, use := .image }
            adminWork := some (.readPoll tag p e.missed) }
      else no .invalidField).closing) ∧
  (∀ (s : State) (tag : Nat) (p : PollId) (m : Nat) (w : BusWrite),
    s.adminWork = some (.readPoll tag p m) → s.adWrite = some w →
    exec (.readPollImageWriteDone .accepted) s =
      .next ({ s with adWrite := none }.completes tag .ok p.val none).closing ∧
    exec (.readPollImageWriteDone .error) s =
      .next (({ s with adWrite := none }.setPoll p ((s.poll p).map fun (e : Poll) =>
        ({ e with missed := min 255 (e.missed + m) } : Poll))).completes tag .hostWriteError p.val none).closing)

/-- ABORT in its three forms (R85, R173, R174): the refusals; the slots matched, each reached by the abort in ascending
number; the command in work until none of them is ACTIVE. What the abort does to a slot (R85): PENDING completes ABORTED,
ACTIVE with its attempt running gets its abort mark, any other is left. What such a completion without an answer does
(R89): the transaction leaves its list, its node's open exchange is released where it names it, the slot is HELD with the
status and the node's state as it then is, and joins the tail of the held list of its queue's CQ. That a flush reports
zeros is the model's reading (log entry 9); that the slots it completes stand on CQ0's held list before the command's own
result, where that comes in the same step, and that an ABORT of no form comes with the row by SQ and tag and is refused
there, are the model's choices (log entries 17 and 4). -/
def Obligations.AbortCommand : Prop :=
  (∀ (s : State) (i : SlotId) (x : Slot) (t : Txn), s.slot i = some x → x.txn = some t →
    (x.st = .pending → s.abortSlot i = s.complete i .aborted 0 0 false) ∧
    (x.st = .active → x.settled = none →
      s.abortSlot i = s.setSlot i (some { x with txn := some { t with abortMark := true } })) ∧
    (x.st = .active → x.settled ≠ none → s.abortSlot i = s) ∧ (x.st = .held ∨ x.st = .fetching → s.abortSlot i = s) ∧
    (∀ (st : Status) (code : Byte) (turn : Nat) (unk : Bool),
      let held := fun (u : State) (h : Option Health) =>
        (u.setSlot i (some
          { x with st := .held,
                   settled := some { status := st, replyLen := 0, replyCode := code, turn := turn, nodeState := h,
                                     abortLate := false, outcomeUnk := unk } })).setCq (s.sq x.sq).cq
          { s.cq (s.sq x.sq).cq with held := (s.cq (s.sq x.sq).cq).held ++ [HeldRef.slot i] }
      (t.kind = .exchange → ∀ n nd, s.findNode t.line t.address = some n → s.node n = some nd →
        s.complete i st code turn unk =
          held (s.setNode n (some { nd with pendingList := nd.pendingList.filter (· != i)
                                            openX := if nd.openX = some (.slot i) then none else nd.openX }))
            (some nd.health)) ∧
      (t.kind = .exchange → s.findNode t.line t.address = none → s.complete i st code turn unk = held s none) ∧
      (t.kind ≠ .exchange →
        s.complete i st code turn unk =
          held (s.setSched t.line { s.sched t.line with lineList := (s.sched t.line).lineList.filter (· != i) }) none))) ∧
  ∀ (s : State) (r : List Byte), s.Reading →
    let s1 := s.taken
    let tag := u16At r 2
    let no := fun st => s1.completes tag st 0 none
    let reach := fun l : List SlotId =>
      { l.foldl State.abortSlot s1 with adminWork := some (.abort tag l.length l) }
    let live := fun (i : SlotId) (f : Slot → Bool) =>
      match s.slot i with
      | some x => (x.st == .pending || x.st == .active) && f x
      | none => false
    exec (.abortBySqAndTag r) s = .next
      (if byteAt r 1 = 0x00#8 ∧ 1 ≤ (byteAt r 20).toNat ∧ (byteAt r 20).toNat ≤ 7 then
        reach (allSlots.filter fun i => live i fun x => x.sq.val == (byteAt r 20).toNat && x.tag == u16At r 22)
      else no .invalidField).closing ∧
    exec (.abortByNode r) s = .next
      (if (byteAt r 4).toNat < 4 ∧ byteAt r 5 ≠ 0x00#8 ∧ byteAt r 5 ≠ 0xFF#8 then
        reach (allSlots.filter fun i => live i fun x =>
          match x.txn with
          | some t => t.kind == .exchange && t.line.val == (byteAt r 4).toNat && t.address == byteAt r 5
          | none => false)
      else no .invalidField).closing ∧
    exec (.abortByLine r) s = .next
      (if (byteAt r 4).toNat < 4 then
        reach (allSlots.filter fun i => live i fun x =>
          match x.txn with
          | some t => t.line.val == (byteAt r 4).toNat
          | none => false)
      else no .invalidField).closing

/-- ABORT completes OK with the number of slots matched once none of them is ACTIVE (R174), and the oldest ready command's
completion becomes the admin result once the context and the result are absent and no record read runs (R154). What comes
about in the step of a command (R129, R153, R154, R174; the model's choice to do it there, log entry 3): outside OFF and
FATAL the waiting commands' objects are closed in the order in which the commands were taken (each as
ConditionsComeToHold gives); then ABORT waits on the slots still ACTIVE, or completes; then a ready command may. -/
def Obligations.AdminCompletions : Prop :=
  (∀ (s : State) (tag n : Nat) (l : List SlotId), (s.ctl = .running ∨ s.ctl = .draining ∨ s.ctl = .stopped) →
    s.adminWork = some (.abort tag n l) → (∀ i ∈ l, s.isActive i = false) →
    exec .abortComplete s = .next (s.completes tag .ok n none)) ∧
  (∀ (s : State) (w : WaitCmd) (rest : List WaitCmd), (s.ctl = .running ∨ s.ctl = .draining ∨ s.ctl = .stopped) →
    s.adminWork = none → s.adminResult = none → s.adRead = none → s.ready = w :: rest →
    exec .readyCommandResult s = .next ({ s with ready := rest }.completes w.tag .ok
      (match w.obj with | .sq q => q.val | .cq c => c.val | .line l => l.val | .node n => n.val | .poll p => p.val) none)) ∧
  (∀ s : State, (s.ctl = .off ∨ s.ctl = .fatal → s.closing = s) ∧
    (s.ctl = .running ∨ s.ctl = .draining ∨ s.ctl = .stopped →
      let t := (s.waiting.map (·.obj)).foldl State.closeObj s
      let active := fun i : SlotId => match t.slot i with | some x => x.st == .active | none => false
      let u :=
        match t.adminWork with
        | some (.abort tag n l) =>
          if l.any active then { t with adminWork := some (.abort tag n (l.filter active)) } else t.completes tag .ok n none
        | _ => t
      s.closing =
        match u.ready with
        | w :: rest =>
          if u.adminWork = none ∧ u.adminResult = none ∧ u.adRead = none then
            { u with ready := rest }.completes w.tag .ok
              (match w.obj with
              | .sq q => q.val | .cq c => c.val | .line l => l.val | .node n => n.val | .poll p => p.val) none
          else u
        | [] => u))

/-- The record of every well-formed administrative command is sorted back to that command, and every record of 64 bytes to
a well-formed one (R155, R187). That a STOP LINE of no form is sorted to the draining row and an ABORT of no form to the
row by SQ and tag is the model's choice (log entry 4). -/
def Obligations.AdminRecordsSorted : Prop :=
  (∀ (i : Instr) (r : List Byte), i.wellFormed = true → i.adminRecord = some r → decodeAdmin r = i) ∧
  (∀ r : List Byte, r.length = 64 → (decodeAdmin r).wellFormed = true ∧ (decodeAdmin r).adminRecord = some r)

/-! ### The completion writer and the notice unit -/

/-- WRITER_BEGIN_ENTRY on a completion (R90, R133, R135, R136, R156, R188): a CQ is taken exactly when one has work, and
nothing changes with no choice, with an entry in progress, or outside RUNNING and DRAINING; the CQ taken has work and room,
and no CQ with work comes between the position and it; a completion is chosen when no notice waits for the CQ or the last
kind was a notice; the 16-byte record, byte by byte, at base + 16 x tail, of a HELD slot, with attempts and busy replies 0
where its refused record spelled no kind or no line, and of the admin result, with SQ id 0, the result value at offset 5
and SQ0's head; nothing else changes but the writer. The flags byte has PHASE in bit 0, KIND 0 in bit 1, ABORT_LATE in bit
2 and OUTCOME_UNKNOWN in bit 3; the status and node state bytes are the codes of R188. That such a slot has no transaction to count in is the model's reading
(log entry 9). -/
def Obligations.WriterBeginsCompletion : Prop :=
  ∀ s : State,
    let work := fun k : CqId =>
      (s.cq k).st = .active ∧ (s.cq k).unreleased < (s.cq k).size ∧
        ((s.cq k).held ≠ [] ∨ (s.noticeCq = k ∧ s.noticeList ≠ []))
    (s.chooseCq = none ↔ ∀ k, ¬work k) ∧
    (s.chooseCq = none ∨ s.writer ≠ none ∨ (s.ctl ≠ .running ∧ s.ctl ≠ .draining) →
      exec .writerBeginEntry s = .next s) ∧
    ∀ (c : CqId) (ref : HeldRef) (rest : List HeldRef), (s.ctl = .running ∨ s.ctl = .draining) → s.writer = none →
      s.chooseCq = some c → (s.cq c).held = ref :: rest →
      (s.noticeCq ≠ c ∨ s.noticeList = [] ∨ (s.cq c).lastKind = .notice) →
      let begun := fun data : List Byte =>
        { s with
          writer := some { cq := c, work := .completion ref }, writerPos := c
          quWrites := s.quWrites ++
            [{ addr := (s.cq c).base + BitVec.ofNat 32 (16 * (s.cq c).tail), data := data, use := .entry }] }
      let code := fun st : Status =>
        match st with
        | .ok => (0x00 : Byte) | .dataTruncated => 0x01 | .rejected => 0x02 | .noReply => 0x03 | .checkError => 0x04
        | .truncated => 0x05 | .lineError => 0x06 | .clash => 0x07 | .lineFault => 0x08 | .nodeBusy => 0x09
        | .nodeOffline => 0x0A | .nodeDisabled => 0x0B | .unknownNode => 0x0C | .invalidField => 0x0D | .expired => 0x0E
        | .aborted => 0x0F | .lineStopped => 0x10 | .hostWriteError => 0x11 | .invalidState => 0x20 | .inUse => 0x21
        | .notFound => 0x22 | .tableFull => 0x23 | .hostReadError => 0x24
      let nodeState := fun h : Option Health =>
        match h with
        | none => (0x00 : Byte) | some .unknown => 0x01 | some .online => 0x02 | some .suspect => 0x03
        | some .offline => 0x04 | some .disabled => 0x05
      let flags := fun late unknown : Bool =>
        le8 ((if (s.cq c).phase then 1 else 0) + (if late then 4 else 0) + (if unknown then 8 else 0))
      work c ∧ (∀ k, work k → (c.val + 3 - s.writerPos.val) % 4 ≤ (k.val + 3 - s.writerPos.val) % 4) ∧
      (∀ i x d, ref = .slot i → s.slot i = some x → x.settled = some d →
        exec .writerBeginEntry s = .next (begun
          [le8 x.tag, le8 (x.tag / 256), le8 x.sq.val, code d.status, le8 d.replyLen, d.replyCode,
            le8 ((x.txn.map (·.attempts)).getD 0), le8 ((x.txn.map (·.busies)).getD 0), le8 d.turn, le8 (d.turn / 256),
            nodeState d.nodeState, flags d.abortLate d.outcomeUnk, le8 (s.sq x.sq).head,
            le8 ((s.sq x.sq).head / 256), 0, 0])) ∧
      ∀ d, ref = .admin → s.adminResult = some d →
        exec .writerBeginEntry s = .next (begun
          [le8 d.tag, le8 (d.tag / 256), 0, code d.status, 0, le8 d.value, 0, 0, 0, 0, nodeState d.nodeState,
            flags false false, le8 (s.sq 0).head, le8 ((s.sq 0).head / 256), 0, 0])

/-- WRITER_BEGIN_ENTRY on a notice of a node, a line or a queue (R63, R135, R136, R144, R145, R188): a CQ is taken exactly
when one has work, and nothing changes with no choice, with an entry in progress, or outside RUNNING and DRAINING; the head
of the list leaves it, the record is formed from the source as it stands, with the codes of R188 and KIND 1 beside PHASE in
its flags, and the source is reset. -/
def Obligations.WriterBeginsNotice : Prop :=
  ∀ s : State,
    let work := fun k : CqId =>
      (s.cq k).st = .active ∧ (s.cq k).unreleased < (s.cq k).size ∧
        ((s.cq k).held ≠ [] ∨ (s.noticeCq = k ∧ s.noticeList ≠ []))
    (s.chooseCq = none ↔ ∀ k, ¬work k) ∧
    (s.chooseCq = none ∨ s.writer ≠ none ∨ (s.ctl ≠ .running ∧ s.ctl ≠ .draining) →
      exec .writerBeginEntry s = .next s) ∧
    ∀ (c : CqId) (x : Source) (rest : List Source),
    (s.ctl = .running ∨ s.ctl = .draining) → s.writer = none → s.chooseCq = some c → s.noticeCq = c →
    s.noticeList = x :: rest → ((s.cq c).held = [] ∨ (s.cq c).lastKind = .completion) →
    let begun := fun (t : State) (data : List Byte) =>
      { t with
        noticeList := rest, writer := some { cq := c, work := .notice }, writerPos := c
        quWrites := s.quWrites ++
          [{ addr := (s.cq c).base + BitVec.ofNat 32 (16 * (s.cq c).tail), data := data, use := .entry }] }
    let flags : Byte := if (s.cq c).phase then 3 else 2
    let health := fun h : Health =>
      match h with | .unknown => (0x01 : Byte) | .online => 0x02 | .suspect => 0x03 | .offline => 0x04 | .disabled => 0x05
    let lineState := fun st : LineSt =>
      match st with
      | .off => (0x00 : Byte) | .starting => 0x01 | .idle => 0x02 | .guard => 0x03 | .tx => 0x04 | .wait => 0x05
      | .rx => 0x06 | .settle => 0x07 | .fault => 0x08
    let error := fun e : Option QueueErr =>
      match e with | none => (0x00 : Byte) | some .readError => 0x01 | some .badPost => 0x02 | some .badRelease => 0x03
    let queueState := fun st : QueueSt =>
      match st with | .absent => (0x00 : Byte) | .active => 0x01 | .stalled => 0x02 | .deleting => 0x03
    (∀ n nd, x = .node n → s.node n = some nd →
      exec .writerBeginEntry s = .next
        (begun (s.setNode n (some { nd with noticeMark := false, transitions := 0 }))
          [if nd.health = .online ∨ nd.health = .suspect then 0x01 else 0x02, le8 n.val, le8 nd.line.val, nd.address,
            health nd.health, le8 nd.transitions, 0, 0, 0, 0, 0, flags, 0, 0, 0, 0])) ∧
    (∀ l, x = .line l →
      exec .writerBeginEntry s = .next
        (begun (s.setLine l { s.line l with transitions := 0 })
          [if (s.line l).st = .fault then 0x05 else 0x06, le8 l.val, lineState (s.line l).st, le8 (s.line l).transitions, 0, 0,
            0, 0, 0, 0, 0, flags, 0, 0, 0, 0])) ∧
    (∀ q, x = .sq q →
      exec .writerBeginEntry s = .next
        (begun (s.setSq q { s.sq q with noticeMark := false })
          [0x07, le8 q.val, 0, error (s.sq q).error, queueState (s.sq q).st, 0, 0, 0, 0, 0, 0, flags, le8 (s.sq q).head,
            le8 ((s.sq q).head / 256), 0, 0])) ∧
    (∀ d, x = .cq d →
      exec .writerBeginEntry s = .next
        (begun (s.setCq d { s.cq d with noticeMark := false })
          [0x07, le8 d.val, 1, error (s.cq d).error, queueState (s.cq d).st, 0, 0, 0, 0, 0, 0, flags, le8 (s.cq d).head,
            le8 ((s.cq d).head / 256), 0, 0]))

/-- The posting of a poll entry (R119), begun where the CQ with work that is chosen is the notice CQ and the turn is a
notice's (R135, R136); nothing begins with no choice, with an entry in progress, or outside RUNNING and DRAINING. With stored data and not FAULTED its copy is written to the entry's buffer first,
and the record follows; an error on that write withdraws the entry, faults it and makes the notice POLL_FAULT; an entry
that carries the removal mark by then is not faulted, nor is anything where it has gone, and the record follows all the same
(R121). An entry
without stored data is posted at once as POLL_CHANGE, a FAULTED one at once as POLL_FAULT. Offset 4 of each record is the
copied reply length, and the flags have KIND 1 beside PHASE (R188); that POLL_FAULT carries it too is read from the table of R188 (log entry 6). -/
def Obligations.PollPosting : Prop :=
  (∀ s : State,
    let work := fun k : CqId =>
      (s.cq k).st = .active ∧ (s.cq k).unreleased < (s.cq k).size ∧
        ((s.cq k).held ≠ [] ∨ (s.noticeCq = k ∧ s.noticeList ≠ []))
    (s.chooseCq = none ↔ ∀ k, ¬work k) ∧
    (s.chooseCq = none ∨ s.writer ≠ none ∨ (s.ctl ≠ .running ∧ s.ctl ≠ .draining) →
      exec .writerBeginEntry s = .next s) ∧
    ∀ (c : CqId) (p : PollId) (e : Poll) (rest : List Source),
    (s.ctl = .running ∨ s.ctl = .draining) → s.writer = none → s.chooseCq = some c → s.noticeCq = c →
    s.noticeList = .poll p :: rest → ((s.cq c).held = [] ∨ (s.cq c).lastKind = .completion) → s.poll p = some e →
    let spot : Word := (s.cq c).base + BitVec.ofNat 32 (16 * (s.cq c).tail)
    let flags : Byte := if (s.cq c).phase then 3 else 2
    let n := e.stored.length
    exec .writerBeginEntry s = .next
      (if e.st ≠ .faulted ∧ e.stored ≠ [] then
        { s.setPoll p (some { e with change := false }) with
          noticeList := rest, writerPos := c
          writer := some { cq := c, work := .pollData p e.node e.st n false }
          nuWrite := some { addr := e.buffer, data := e.stored, use := .pollData } }
      else
        { s.setPoll p (some { e with change := false }) with
          noticeList := rest, writerPos := c, writer := some { cq := c, work := .notice }
          quWrites := s.quWrites ++ [{ addr := spot, use := .entry, data :=
            [if e.st = .faulted then 0x04 else 0x03, le8 p.val, le8 e.node.val,
              match e.st with | .active => 0x01 | .suspended => 0x02 | .faulted => 0x03, le8 n, 0, 0, 0, 0, 0, 0, flags,
              0, 0, 0, 0] }] })) ∧
  (∀ (s : State) (c : CqId) (p : PollId) (n : NodeId) (st : PollSt) (len : Nat) (gone : Bool) (w : BusWrite),
    s.writer = some { cq := c, work := .pollData p n st len gone } → s.nuWrite = some w →
    let spot : Word := (s.cq c).base + BitVec.ofNat 32 (16 * (s.cq c).tail)
    let flags : Byte := if (s.cq c).phase then 3 else 2
    exec (.pollDataWriteDone .accepted) s = .next
      { s with
        nuWrite := none, writer := some { cq := c, work := .notice }
        quWrites := s.quWrites ++ [{ addr := spot, use := .entry, data :=
          [0x03, le8 p.val, le8 n.val, match st with | .active => 0x01 | .suspended => 0x02 | .faulted => 0x03, le8 len, 0, 0, 0, 0, 0, 0, flags, 0, 0, 0, 0] }] } ∧
    (gone = true ∨ s.poll p = none ∨ (∃ e, s.poll p = some e ∧ e.removal = true) →
      exec (.pollDataWriteDone .error) s = .next
        { s with
          nuWrite := none, writer := some { cq := c, work := .notice }
          quWrites := s.quWrites ++ [{ addr := spot, use := .entry, data :=
            [0x04, le8 p.val, le8 n.val, 0x03, le8 len, 0, 0, 0, 0, 0, 0, flags, 0, 0, 0, 0] }] }) ∧
    ∀ e, gone = false → s.poll p = some e → e.removal = false → ∃ t, exec (.pollDataWriteDone .error) s = .next t ∧
      t.poll p = some { e with st := .faulted, due := false, inst := none, baseline := false, nextDue := none } ∧
      t = { s with
        polls := t.polls, nodes := t.nodes, nuWrite := none, writer := some { cq := c, work := .notice }
        quWrites := s.quWrites ++ [{ addr := spot, use := .entry, data :=
          [0x04, le8 p.val, le8 n.val, 0x03, le8 len, 0, 0, 0, 0, 0, 0, flags, 0, 0, 0, 0] }] } ∧
      (∀ k, k ≠ p → t.poll k = s.poll k) ∧
      (∀ m, t.node m = (s.node m).map fun r =>
        if m = e.node ∧ e.inst ≠ none ∧ r.openX = some (.poll p) then { r with openX := none } else r))

/-- ENTRY_WRITE_DONE (R90, R133, R148, R149): the ring, the phase, the last kind, the held list, the slot or the admin
result, and the aggregator. -/
def Obligations.EntryWritten : Prop :=
  ∀ (s : State) (c : CqId) (w : EntryWork) (b : BusWrite) (more : List BusWrite),
    s.writer = some { cq := c, work := w } → s.quWrites = b :: more → b.use = .entry →
    let d := s.cq c
    let base := fun k : EntryKind =>
      let n := min 255 (d.count + 1)
      let starts := d.count = 0 ∧ d.timer = .stopped
      { d with
        tail := (d.tail + 1) % d.size, phase := if d.tail + 1 = d.size then !d.phase else d.phase
        unreleased := d.unreleased + 1, lastKind := k, count := n
        held := match k with | .completion => d.held.tail | .notice => d.held
        timer := if starts ∧ d.delay = 0 then AggTimer.expired else if starts then .running 0 else d.timer
        cause := d.cause || (d.irqEnable && (decide (d.threshold ≤ n) || decide (starts ∧ d.delay = 0))) }
    let s1 := { s with quWrites := more, writer := none }
    (∀ i, w = .completion (.slot i) →
      exec .entryWriteDone s = .next ((s1.setCq c (base .completion)).setSlot i none).closing) ∧
    (w = .completion .admin →
      exec .entryWriteDone s = .next { s1.setCq c (base .completion) with adminResult := none }.closing) ∧
    (w = .notice → exec .entryWriteDone s = .next (s1.setCq c (base .notice)).closing)

/-- ENTRY_WRITE_ERROR (R40, R138, R151, R180): FATAL with its cause; every line OFF with its configuration and transitions
count; every bus access abandoned; everything else as it stood. That the records of the fetch and of the entry in progress
are among what stands is the model's reading (log entry 12), and that a line in OFF keeps the level of its wire its choice (log
entry 5). -/
def Obligations.EntryRefused : Prop :=
  ∀ (s : State) (c : CqId) (w : EntryWork) (b : BusWrite) (more : List BusWrite),
    s.writer = some { cq := c, work := w } → s.quWrites = b :: more → b.use = .entry →
    (w = .notice ∨ ∃ ref, w = .completion ref) →
    ∃ t, exec .entryWriteError s = .next t ∧ t.ctl = .fatal ∧
      t.fatalCause = (if w = .notice then .noticeWrite else .completionWrite) ∧ t.fatalIrq = true ∧
      t.interruptLine = true ∧ t.BusFree ∧
      (∀ l, let x := s.line l
        let cut := fun y : Line => y.driver && (y.st == .off || y.st == .starting)
        t.line l = Line.offWith x.cfg x.transitions
          (x.space || (x.inChar && !(x.st == .tx || (x.st == .starting && x.phase == .sending) || cut x)))) ∧
      t = { s with ctl := t.ctl, fatalCause := t.fatalCause, fatalIrq := t.fatalIrq, lines := t.lines,
                   quRead := t.quRead, quWrites := t.quWrites, adRead := t.adRead, adWrite := t.adWrite,
                   nuWrite := t.nuWrite }

/-- REPLY_DATA_WRITE_DONE (R81, R89): the slot enters HELD with its settled result, HOST_WRITE_ERROR on a bus error; the
node state is the record's as it stands then, a record made under the same key meanwhile included, and the settled one
where there is none (the model's reading and choice, log entry 10). -/
def Obligations.ReplyDataWritten : Prop :=
  ∀ (s : State) (i : SlotId) (x : Slot) (t : Txn) (d : Settled) (b : BusWrite) (more : List BusWrite) (a : WriteAnswer),
    s.quWrites = b :: more → b.use = .reply i → s.slot i = some x → x.st = .active → x.txn = some t →
    x.settled = some d →
    exec (.replyDataWriteDone a) s = .next
      (({ s with quWrites := more }.setSlot i (some
        { x with st := .held,
                 settled := some { d with
                   status := match a with | .accepted => d.status | .error => .hostWriteError
                   nodeState := (s.healthOfTxn t).or d.nodeState } })).setCq (s.sq x.sq).cq
        { s.cq (s.sq x.sq).cq with held := (s.cq (s.sq x.sq).cq).held ++ [HeldRef.slot i] }).closing

/-! ### Scheduling and the line -/

/-- The scheduler's choice (R95 to R103): the candidates of a line, by the conditions of R95 (the head of a node's pending
list), R96 (the head of the line list), R97 (a further attempt of an instance in flight, a new instance of a due entry) and
R98 (a due probe, in class 2 where it is promoted and in class 4 otherwise); the choice is none only when there is none,
else the first class with a candidate, and in it the first after the class's position, upward and around: in classes 1 and 3
over −1 (the line list) to 127, in class 2 over the pairs from (0, −1) to (127, 63), in class 4 over 0 to 127; a line that is
not IDLE, and a controller that is neither RUNNING nor DRAINING, are given nothing; otherwise the choice is handed over, the
probes that it finds promoted having got their mark, which changes no candidate. That a new instance waits for any ACTIVE
transaction with the record's line and address, a settled one of a removed record under the same key included, is the
model's choice (log entry 10). -/
def Obligations.SchedulerOrder : Prop :=
  ∀ (s : State) (l : LineId),
    let serves := fun r : Node => r.health = .unknown ∨ r.health = .online ∨ r.health = .suspect
    let clsOf := fun x : Slot => match x.cls with | .urgent => 1 | .normal => 3
    let offered := s.ctl = .running ∧ (s.line l).stopRequested = false
    let due := fun r : Node => r.probeDue = true ∨ ∃ t, r.nextProbe = some t ∧ msReached s.ms t = true
    let promoted := fun r : Node => r.promoted = true ∨
      ∃ t, r.nextProbe = some t ∧ msReached s.ms (t + BitVec.ofNat 32 (s.line l).cfg.probeIval) = true
    let probes := fun (n : NodeId) (r : Node) =>
      s.node n = some r ∧ r.line = l ∧ r.health = .offline ∧ due r ∧
        (∀ a, (s.line l).attempt = some a → a.owner ≠ .probe n) ∧ offered
    let at1 := fun n : Option NodeId => match n with | none => 0 | some n => n.val + 1
    let past := fun c : Cand =>
      match c.cls with
      | 1 => (c.place + 128 - at1 (s.sched l).pos1) % 129
      | 2 => (c.place + 8319 - (65 * (s.sched l).pos2.1.val + match (s.sched l).pos2.2 with | none => 0 | some p => p.val + 1))
          % 8320
      | 3 => (c.place + 128 - at1 (s.sched l).pos3) % 129
      | _ => (c.place + 127 - (s.sched l).pos4.val) % 128
    (∀ c : Cand, c ∈ s.candidates l ↔
      (∃ i rest x, (s.sched l).lineList = i :: rest ∧ s.slot i = some x ∧ x.st = .pending ∧
        c = { cls := clsOf x, place := 0, work := .txn i }) ∨
      (∃ n r i rest x, s.node n = some r ∧ r.line = l ∧ r.pendingList = i :: rest ∧ serves r ∧ r.holdOffEnd = none ∧
        (r.openX = none ∨ r.openX = some (.slot i)) ∧ s.slot i = some x ∧ x.st = .pending ∧
        c = { cls := clsOf x, place := n.val + 1, work := .txn i }) ∨
      (∃ p e r, s.poll p = some e ∧ s.node e.node = some r ∧ r.line = l ∧
        (e.inst ≠ none ∧ e.running = false ∧ r.openX = some (.poll p) ∧
            c = { cls := 2, place := 65 * e.node.val + p.val + 1, work := .pollAgain p } ∨
         e.inst = none ∧ e.st = .active ∧ e.due = true ∧ e.removal = false ∧ serves r ∧ r.holdOffEnd = none ∧
            r.openX = none ∧
            (∀ i x t, s.slot i = some x → x.txn = some t → x.st = .active →
              ¬(t.kind = .exchange ∧ t.line = r.line ∧ t.address = r.address)) ∧ offered ∧
            c = { cls := 2, place := 65 * e.node.val + p.val + 1, work := .pollNew p })) ∨
      (∃ n r, probes n r ∧
        (promoted r ∧ c = { cls := 2, place := 65 * n.val, work := .probe n } ∨
         ¬promoted r ∧ c = { cls := 4, place := n.val, work := .probe n }))) ∧
    (s.choose l = none ↔ s.candidates l = []) ∧
    (∀ c, s.choose l = some c → c ∈ s.candidates l ∧ ∀ d ∈ s.candidates l, c.cls ≤ d.cls ∧
      (d.cls = c.cls → past c ≤ past d)) ∧
    ((s.line l).st ≠ .idle ∨ (s.ctl ≠ .running ∧ s.ctl ≠ .draining) → exec (.schedulerChoice l) s = .next s) ∧
    ((s.line l).st = .idle → s.ctl = .running ∨ s.ctl = .draining →
      exec (.schedulerChoice l) s = .next
        (match s.choose l with
        | some c => (s.promote l).handOver l c
        | none => s.promote l)) ∧
    s.promote l = { s with nodes := (s.promote l).nodes } ∧
    (∀ n r, s.node n = some r →
      (probes n r ∧ promoted r → (s.promote l).node n = some { r with probeDue := true, promoted := true }) ∧
      (¬(probes n r ∧ promoted r) → (s.promote l).node n = some r)) ∧
    (∀ n, s.node n = none → (s.promote l).node n = none) ∧
    (s.ctl ≠ .running ∨ (s.line l).stopRequested = true → ∀ c ∈ s.candidates l,
      (∀ n, c.work ≠ .probe n) ∧ (∀ p, c.work ≠ .pollNew p))

/-- SCHEDULER_CHOICE hands the chosen work over (R4, R19, R20, R21, R55, R58, R75, R102, R103, R111): a transaction, of a
node's list or of the line list, is ACTIVE with one more attempt, its retry limit fixed at the first, and for an EXCHANGE
its SEQ and the open exchange; a new poll instance has the node's SEQ and retry limit, a further attempt of one keeps them;
a probe is no longer due; the position of the class moves to what was served; the line is in GUARD with the attempt, and
nothing else of it changes but the wait, the receive buffer and the echo's place. Where the guard time is already reached, TX
follows at the same instant, by GUARD_TIME_REACHED (GuardAndQuiet) or by the next tick before time goes on
(IdleStepIsATick), and a start bit of that instant may come first: that it is a step of its own is the model's choice (log
entry 2). -/
def Obligations.HandsOverExchange : Prop :=
  ∀ (s : State) (l : LineId) (c : Cand), (s.ctl = .running ∨ s.ctl = .draining) → (s.line l).st = .idle →
    s.choose l = some c →
    let s1 := s.promote l
    let x := s.line l
    let given := fun a : Attempt =>
      { x with st := .guard, attempt := some a, waited := 0, txPos := 0, rxBuf := [], rxCount := 0, foreign := false }
    let resp := fun nd : Node => some (if nd.respLimit = 0 then x.cfg.respLimit else nd.respLimit)
    let tries := fun nd : Node => if nd.retryLimit ≤ 7 then nd.retryLimit else x.cfg.retryLimit
    let begun := fun (t : Txn) (seq : Option Bool) (retry : Nat) =>
      ({ t with attempts := t.attempts + 1, seq := seq, retry := some (t.retry.getD retry) } : Txn)
    let moved := fun (pos : Option NodeId) =>
      if c.cls = 1 then { s.sched l with pos1 := pos } else { s.sched l with pos3 := pos }
    (∀ (i : SlotId) (y : Slot) (t : Txn) (n : NodeId) (nd : Node), c.work = .txn i → s.slot i = some y →
      y.txn = some t → t.kind = .exchange → s1.findNode t.line t.address = some n → s1.node n = some nd →
      let seq := t.seq.getD nd.seq
      exec (.schedulerChoice l) s = .next
        ((((s1.setSlot i (some
              { y with st := .active, txn := some (begun t (some seq) (tries nd)) })).setNode n
            (some { nd with openX := some (.slot i) })).setLine l
          (given { owner := .slot i, address := t.address, seq := seq, function := t.function, data := t.data,
                   respLimit := resp nd })).setSched l (moved (some n)))) ∧
    (∀ (i : SlotId) (y : Slot) (t : Txn), c.work = .txn i → s.slot i = some y → y.txn = some t → t.kind ≠ .exchange →
      exec (.schedulerChoice l) s = .next
        (((s1.setSlot i (some
              { y with st := .active, txn := some (begun t none x.cfg.retryLimit) })).setLine l
          (given { owner := .slot i, address := t.address, seq := false, function := t.function, data := t.data,
                   respLimit := if t.kind = .broadcast then none else some x.cfg.respLimit })).setSched l (moved none))) ∧
    (∀ (p : PollId) (e : Poll) (nd : Node), c.work = .pollNew p → s.poll p = some e → s1.node e.node = some nd →
      exec (.schedulerChoice l) s = .next
        ((((s1.setPoll p (some
              { e with due := false, running := true,
                       inst := some { seq := nd.seq, retry := tries nd, attempts := 1, lastOut := none } })).setNode e.node
            (some { nd with openX := some (.poll p) })).setLine l
          (given { owner := .poll p, address := nd.address, seq := nd.seq, function := e.function, data := e.data,
                   respLimit := resp nd })).setSched l { s.sched l with pos2 := (e.node, some p) })) ∧
    (∀ (p : PollId) (e : Poll) (k : PollInst) (nd : Node), c.work = .pollAgain p → s.poll p = some e → e.inst = some k →
      s1.node e.node = some nd →
      exec (.schedulerChoice l) s = .next
        (((s1.setPoll p (some { e with running := true, inst := some { k with attempts := k.attempts + 1 } })).setLine l
          (given { owner := .poll p, address := nd.address, seq := k.seq, function := e.function, data := e.data,
                   respLimit := resp nd })).setSched l { s.sched l with pos2 := (e.node, some p) })) ∧
    (∀ (n : NodeId) (nd : Node), c.work = .probe n → s1.node n = some nd →
      exec (.schedulerChoice l) s = .next
        (((s1.setNode n (some { nd with probeDue := false, promoted := false })).setLine l
          (given { owner := .probe n, address := nd.address, seq := false, function := 0x00#8, data := [],
                   respLimit := resp nd })).setSched l
          (if c.cls = 2 then { s.sched l with pos2 := (n, none) } else { s.sched l with pos4 := n })))

/-- Characters that are no part of a reply (R18, R21, R29, R31, R33, R36, R39). OFF takes none, and there a command of the wire
tells the level of the wire and nothing else (the model's choice, log entry 5); a line that sends judges its own characters by
their echo, and so does one that still sends the rest of a character that an aborting STOP LINE cut: at its end the driver is
released (R16, R38), and a line started meanwhile has heard it. In every other state a start bit sets the guard, gap and break timers to 0, and in IDLE it moves the line to
GUARD; in IDLE, GUARD, SETTLE, FAULT and the waits of STARTING a character received, with or without its stop bit, is
discarded. In every state but those two a character whose first stop bit is at space leaves the wire at space with the bit
times at space that it ends in on the break timer, moves IDLE to GUARD, and has no other effect before the return to mark. That
the levels within a character are not followed, so that at its end the mark or the space it ends in is counted from its last
bits, is the model's choice (log entry 5). -/
def Obligations.UnsolicitedCharacters : Prop :=
  ∀ (s : State) (l : LineId) (b : Byte) (m : Bool),
    let x := s.line l
    let run := ((false :: (List.range 8).map b.getLsbD ++ [m, true]).reverse.takeWhile id).length
    let low := false :: (List.range 8).map b.getLsbD ++ [m]
    let sends := x.st = .tx ∨ (x.st = .starting ∧ x.phase = .sending) ∨
      (x.driver = true ∧ (x.st = .off ∨ x.st = .starting))
    let next := if x.st = .idle then LineSt.guard else x.st
    (sends →
      exec (.startBitInIdle l) s = .next s.closing ∧ exec (.missingStopBit l) s = .next s.closing ∧
        ∀ last : CharEnd, exec (.characterReceived l b last) s = .next s.closing) ∧
    (x.st = .off → ¬sends →
      let wire := fun space : Bool => (s.setLine l { x with space := space }).closing
      exec (.startBitInIdle l) s = .next (wire true) ∧ exec (.missingStopBit l) s = .next (wire false) ∧
        ∀ last : CharEnd, exec (.characterReceived l b last) s = .next (wire !last.stopOk)) ∧
    (x.st = .off ∨ (x.st = .starting ∧ x.phase ≠ .sending) → x.driver = false →
      ∀ e : Echo, exec (.characterSent l e) s = .next s.closing) ∧
    (x.st = .off → x.driver = true →
      let ends := fun space : Bool => (s.setLine l { x with driver := false, space := space }).closing
      exec (.characterSent l .silence) s = .next (ends false) ∧
        ∀ stop : Bool, exec (.characterSent l (.char b m stop)) s = .next (ends !stop)) ∧
    (x.st = .starting → x.phase ≠ .sending → x.driver = true →
      let second := x.cfg.stopBits - 1
      exec (.characterSent l .silence) s = .next
        (s.setLine l { x with driver := false, inChar := false, guardT := x.guardT + x.charT }).closing ∧
      exec (.characterSent l (.char b m true)) s = .next
        (s.setLine l { x with driver := false, guardT := second, gapT := second, breakT := 0, markT := run + second
                              inChar := false, space := false }).closing ∧
      exec (.characterSent l (.char b m false)) s = .next
        (s.setLine l { x with driver := false, guardT := 0, gapT := 0, markT := 0, inChar := false, space := true
                              breakT := 1 + (low.reverse.takeWhile not).length + second }).closing) ∧
    (x.st ≠ .off → ¬sends →
      exec (.startBitInIdle l) s = .next
        (s.setLine l { x with st := next, guardT := 0, gapT := 0, breakT := 0, markT := 0, inChar := true,
                              charT := 0, space := false }).closing ∧
      exec (.characterReceived l b { mark := m, stopOk := false }) s = .next
        (s.setLine l { x with st := next, guardT := 0, gapT := 0, markT := 0, inChar := false, space := true,
                              breakT := 1 + (low.reverse.takeWhile not).length }).closing) ∧
    (x.st = .idle ∨ x.st = .guard ∨ x.st = .settle ∨ x.st = .fault ∨ (x.st = .starting ∧ x.phase ≠ .sending) → ¬sends →
      exec (.characterReceived l b { mark := m, stopOk := true }) s = .next
        (s.setLine l { x with st := next, guardT := 0, gapT := 0, breakT := 0, markT := run, inChar := false,
                              space := false }).closing ∧
      exec (.missingStopBit l) s = .next
        (s.setLine l { x with st := next, guardT := 0, gapT := 0, breakT := 0, markT := 0, inChar := false,
                              space := false }).closing)

/-- The characters that come while a reply is awaited (R24 to R28, R30). In WAIT the marked ADDRESS of the request opens the
frame in RX where its start bit came within the response limit, and gives the turnaround; any other character at or after
the limit ends the attempt TIMEOUT; before it, a marked one opens a foreign frame and an unmarked one is discarded. In RX a
marked character abandons the partial frame and begins a new one or a foreign one; an unmarked one is stored, data
characters beyond the 48th being counted and not stored; the one that completes the frame gives a stale reply, back to WAIT
with the attempt kept, or the report of the frame's class, and GUARD. One whose first stop bit is at space is neither
stored nor judged before the return to mark (R29). That the start bit lies 11 bit times before the command, and that after a
foreign marked character in RX the response timer resumes at that character's end, of which R27 says nothing, are the
model's choices (log entry 5). -/
def Obligations.CharactersOfAReply : Prop :=
  ∀ (s : State) (l : LineId) (a : Attempt) (b : Byte) (m : Bool),
    (s.line l).attempt = some a →
    let y := s.line l
    let run := ((false :: (List.range 8).map b.getLsbD ++ [m, true]).reverse.takeWhile id).length
    let x := { y with guardT := 0, gapT := 0, breakT := 0, markT := run, inChar := false, space := false }
    let n := y.rxCount
    let buf := if n < 51 ∨ 3 + (byteAt y.rxBuf 2).toNat ≤ n then y.rxBuf ++ [b] else y.rxBuf
    let len := (byteAt buf 2).toNat
    let limit := a.respLimit.getD 0
    let whole : CharEnd := { mark := m, stopOk := true }
    let low := false :: (List.range 8).map b.getLsbD ++ [m]
    (y.st = .wait ∨ y.st = .rx → exec (.characterReceived l b { mark := m, stopOk := false }) s = .next
      (s.setLine l { y with guardT := 0, gapT := 0, markT := 0, inChar := false, space := true
                            breakT := 1 + (low.reverse.takeWhile not).length }).closing) ∧
    (y.st = .wait → exec (.characterReceived l b whole) s = .next
      (if m = true ∧ b = a.address ∧ y.respT - 11 ≤ limit then
        s.setLine l { x with st := .rx, rxBuf := [b], rxCount := 1, respT := y.respT - 11, turn := y.sinceSent - 11,
                             foreign := false }
      else if limit ≤ y.respT then (s.setLine l x).endAttempt l (Report.plain .timeout true) .guard
      else if m = true then s.setLine l { x with foreign := true }
      else s.setLine l x).closing) ∧
    (y.st = .rx → m = true → exec (.characterReceived l b whole) s = .next
      (s.setLine l
        (if b = a.address then { x with rxBuf := [b], rxCount := 1, turn := y.sinceSent - 11 }
        else { x with st := .wait, rxBuf := [], rxCount := 0, foreign := true })).closing) ∧
    (y.st = .rx → m = false → (n + 1 < 3 ∨ n + 1 ≠ len + 5) → exec (.characterReceived l b whole) s = .next
      (s.setLine l { x with rxBuf := buf, rxCount := n + 1 }).closing) ∧
    (y.st = .rx → m = false → 3 ≤ n + 1 → n + 1 = len + 5 →
      let reply := fun o : Outcome =>
        ({ outcome := o, code := byteAt buf 1 &&& 0x3F#8, data := bytesAt buf 3 len, turn := min 65535 y.turn,
           sent := true } : Report)
      exec (.characterReceived l b whole) s = .next
        (match classify a buf with
        | .stale => s.setLine l { x with st := .wait, rxBuf := [], rxCount := 0, foreign := false }
        | .checkError => (s.setLine l x).endAttempt l (Report.plain .checkError true) .guard
        | .replyOk => (s.setLine l x).endAttempt l (reply .replyOk) .guard
        | .replyReject => (s.setLine l x).endAttempt l (reply .replyReject) .guard
        | .replyBusy => (s.setLine l x).endAttempt l (reply .replyBusy) .guard).closing)

/-- The classification of a complete frame (R7, R28): CHECK_ERROR with a bad check, or with LENGTH above 48 whatever the
check; and a reply built for the request's address is CHECK_ERROR, stale, REPLY_OK, REPLY_REJECT or REPLY_BUSY as its DIR,
CODE and SEQ say. -/
def Obligations.FramesClassified : Prop :=
  (∀ (a : Attempt) (f : List Byte),
    let len := (byteAt f 2).toNat
    (48 < len → classify a f = .checkError) ∧
    (len ≤ 48 → bytesAt f (3 + len) 2 ≠ checkChars (f.take (3 + len)) → classify a f = .checkError)) ∧
  ∀ (a : Attempt) (seq dir : Bool) (code : Byte) (data : List Byte), code.toNat < 64 → data.length ≤ 48 →
    classify a (frameOf a.address (controlByte seq dir code) data) =
      (if dir = false ∨ ¬(code = a.function ∨ code = 0x3C#8 ∨ code = 0x3D#8) then .checkError
       else if seq ≠ a.seq ∧ a.function ≠ 0x00#8 then .stale
       else if code = a.function then .replyOk
       else if code = 0x3C#8 then .replyReject
       else .replyBusy)

/-- What a conforming node answers to the request of an attempt is accepted by the line unit (R9, R12, R28): a new request
is executed once and its reply is REPLY_OK; the same request again is not executed and draws the same reply. -/
def Obligations.ExactlyOnceAtTheNode : Prop :=
  ∀ (a : Attempt) (n : Remote) (data again identity : List Byte),
    1 ≤ a.function.toNat → a.function.toNat ≤ 0x3B → a.data.length ≤ 48 → data.length ≤ 48 → n.address = a.address →
    a.address ≠ 0xFF#8 → n.expected = a.seq →
    ∃ n' reply,
      n.hear (.execute data) identity a.frame = { node := n', reply := some reply, executed := true } ∧
      n'.expected = !a.seq ∧ classify a reply = .replyOk ∧ rxData reply = data ∧
      n'.hear (.execute again) identity a.frame = { node := n', reply := some reply, executed := false }

/-- A character sent whose echo matches (R22, R23), and the RESYNC of STARTING (R36). In TX the next character follows;
after the last one of a request to a single address the line is in WAIT with the driver released and the response timer at
0; after the last one of a broadcast the attempt ends REPLY_OK and the broadcast quiet timer starts, a quiet time of 0
expiring at once. In the sending phase of STARTING the next character follows too; after the last one the quiet phase
begins and the SEQ of every record of the line is 0; a mismatch releases the driver and waits for the gap limit. Everything
comes with the end of the character's last stop bit, so that a second stop bit has been counted as silence by the guard and
gap timers: that CHARACTER_SENT comes there, with the compare that R22 makes at the first stop bit, is the model's choice,
and so is the wait after an echo of silence (log entry 5). -/
def Obligations.CharacterSentMatches : Prop :=
  ∀ (s : State) (l : LineId),
    let x := s.line l
    let second := x.cfg.stopBits - 1
    let levels := fun (b : Byte) (m : Bool) => false :: (List.range 8).map b.getLsbD ++ [m]
    let heard := fun (b : Byte) (m : Bool) =>
      { x with guardT := second, gapT := second, breakT := 0, inChar := false, space := false
               markT := ((levels b m ++ [true]).reverse.takeWhile id).length + second }
    let wire := fun e : Echo =>
      match e with
      | .silence => { x with inChar := false, guardT := x.guardT + x.charT, gapT := 0 }
      | .char b m true => heard b m
      | .char b m false =>
        { x with guardT := 0, gapT := 0, markT := 0, inChar := false, space := true
                 breakT := 1 + ((levels b m).reverse.takeWhile not).length + second }
    let atOnce := x.cfg.quietTime = 0
    let quiet := fun y : Line =>
      { y with quietT := 0, quietOn := if atOnce then false else true, guardT := if atOnce then 0 else y.guardT }
    (∀ a, x.st = .tx → x.attempt = some a →
      let b := byteAt a.frame x.txPos
      let m := x.txPos == 0
      (x.txPos + 1 < a.frame.length → exec (.characterSent l (.char b m true)) s = .next
        (s.setLine l { heard b m with txPos := x.txPos + 1, inChar := true, charT := 0 }).closing) ∧
      (x.txPos + 1 = a.frame.length → a.address ≠ 0xFF#8 → exec (.characterSent l (.char b m true)) s = .next
        (s.setLine l { heard b m with st := .wait, driver := false, respT := 0, sinceSent := 0, foreign := false,
                                      txPos := 0, rxBuf := [], rxCount := 0 }).closing) ∧
      (x.txPos + 1 = a.frame.length → a.address = 0xFF#8 → exec (.characterSent l (.char b m true)) s = .next
        ((s.setLine l (quiet (heard b m))).endAttempt l (Report.plain .replyOk true) .guard).closing)) ∧
    (x.st = .starting → x.phase = .sending →
      let f := frameOf 0xFF#8 0x3F#8 []
      let b := byteAt f x.txPos
      let m := x.txPos == 0
      (x.txPos < 4 → exec (.characterSent l (.char b m true)) s = .next
        (s.setLine l { heard b m with txPos := x.txPos + 1, inChar := true, charT := 0 }).closing) ∧
      (x.txPos = 4 → ∃ t : State, exec (.characterSent l (.char b m true)) s = .next t.closing ∧
        t = { s.setLine l
              { quiet (heard b m) with
                driver := false, txPos := 0, phase := .quiet, st := if atOnce then .guard else .starting } with
          nodes := t.nodes } ∧
        ∀ n, t.node n = (s.node n).map fun r => if r.line = l then { r with seq := false } else r) ∧
      (∀ e : Echo, e ≠ .char b m true → exec (.characterSent l e) s = .next
        (s.setLine l { wire e with driver := false, txPos := 0, phase := .clashed }).closing))

/-- Attempts end (R32): the line is in the state of R32's table with no attempt, the driver released and the receive buffer
empty, and the owner named in the attempt has the report, which says whether a character of the request was sent. They end
so at an echo that does not match (CLASH, SETTLE: R22), at a missing stop bit in WAIT or RX (CHAR_ERROR, SETTLE: R29), at
the gap limit in RX (TRUNCATED, GUARD: R27), at the response limit in WAIT with no character in progress and the wire at
mark (TIMEOUT, GUARD: R25), and at the bound on the guard wait with the guard time not reached (CLASH with nothing sent, GUARD: R21). The gap
limit ends SETTLE too (R31), a foreign frame (R24), and the wait after a clash of the RESYNC (R36). The break is
BreakAndRecovery's. That an event of a timer changes nothing before its time, that the gap limit is passed one bit time beyond
it (log entry 2), that the response limit gives no TIMEOUT between a first stop bit at space and the return to mark, that
CHARACTER_SENT comes at the end of the last stop bit, and that the gap timer begins at 0 at a mismatch where the echo was
silence (log entry 5), are the model's choices. -/
def Obligations.AttemptsEnd : Prop :=
  ∀ (s : State) (l : LineId),
    let x := s.line l
    let second := x.cfg.stopBits - 1
    let levels := fun (b : Byte) (m : Bool) => false :: (List.range 8).map b.getLsbD ++ [m]
    let heard := fun (b : Byte) (m : Bool) =>
      { x with guardT := second, gapT := second, breakT := 0, inChar := false, space := false
               markT := ((levels b m ++ [true]).reverse.takeWhile id).length + second }
    let wire := fun e : Echo =>
      match e with
      | .silence => { x with inChar := false, guardT := x.guardT + x.charT, gapT := 0 }
      | .char b m true => heard b m
      | .char b m false =>
        { x with guardT := 0, gapT := 0, markT := 0, inChar := false, space := true
                 breakT := 1 + ((levels b m).reverse.takeWhile not).length + second }
    let late := x.inChar = false ∧ x.space = false ∧ x.cfg.gapLimit * (10 + x.cfg.stopBits) < x.gapT
    (∀ a, x.attempt = some a →
      (∀ (rep : Report) (dest : LineSt), s.endAttempt l rep dest =
        let u := s.setLine l { x with st := dest, attempt := none, driver := false, rxBuf := [], rxCount := 0,
                                      foreign := false, txPos := 0 }
        match a.owner with
        | .slot i => u.slotReport i a.seq rep
        | .poll p => u.pollReport p a.seq rep
        | .probe n => u.probeReport n (some rep)) ∧
      (∀ e : Echo, x.st = .tx → e ≠ .char (byteAt a.frame x.txPos) (x.txPos == 0) true →
        exec (.characterSent l e) s = .next
          ((s.setLine l (wire e)).endAttempt l { outcome := .clash, code := 0, data := [], turn := 0, sent := true }
            .settle).closing) ∧
      (x.st = .wait ∨ x.st = .rx → exec (.missingStopBit l) s = .next
        ((s.setLine l
          { x with guardT := 0, gapT := 0, breakT := 0, markT := 0, inChar := false, space := false }).endAttempt l { outcome := .charError, code := 0, data := [], turn := 0, sent := true }
          .settle).closing) ∧
      (x.st = .rx → late → exec (.gapLimitPassed l) s = .next
        (s.endAttempt l { outcome := .truncated, code := 0, data := [], turn := 0, sent := true } .guard).closing) ∧
      (x.st = .wait → x.inChar = false → x.space = false → a.respLimit.getD 0 ≤ x.respT → exec (.responseTimeout l) s = .next
        (s.endAttempt l { outcome := .timeout, code := 0, data := [], turn := 0, sent := true } .guard).closing) ∧
      (x.st = .wait → x.inChar = true ∨ x.space = true ∨ x.respT < a.respLimit.getD 0 →
        exec (.responseTimeout l) s = .next s.closing) ∧
      (x.st = .guard → a.respLimit.getD x.cfg.respLimit ≤ x.waited →
        x.quietOn = true ∨ x.inChar = true ∨ x.space = true ∨ x.guardT < x.cfg.guardTime →
        exec (.guardWaitBoundReached l) s = .next
          (s.endAttempt l { outcome := .clash, code := 0, data := [], turn := 0, sent := false } .guard).closing) ∧
      (x.st = .guard → x.waited < a.respLimit.getD x.cfg.respLimit →
        exec (.guardWaitBoundReached l) s = .next s.closing)) ∧
    (late → x.st = .settle → exec (.gapLimitPassed l) s = .next (s.setLine l { x with st := .guard }).closing) ∧
    (late → x.st = .wait → exec (.gapLimitPassed l) s = .next (s.setLine l { x with foreign := false }).closing) ∧
    (late → x.st = .starting → x.phase = .clashed →
      exec (.gapLimitPassed l) s = .next (s.setLine l { x with phase := .guardWait }).closing) ∧
    (¬late → exec (.gapLimitPassed l) s = .next s.closing)

/-- The guard time and the quiet time (R18, R21, R23, R31, R36): GUARD goes to TX with an attempt and to IDLE without one,
STARTING begins its RESYNC; the quiet timer's expiry sets the guard timer to 0 and ends STARTING's quiet phase. That neither
event changes anything before its time is the model's choice (log entry 2). -/
def Obligations.GuardAndQuiet : Prop :=
  ∀ (s : State) (l : LineId),
    let x := s.line l
    let reached := x.quietOn = false ∧ x.inChar = false ∧ x.space = false ∧ x.cfg.guardTime ≤ x.guardT
    (reached →
      (x.st = .guard → ∀ a, x.attempt = some a → exec (.guardTimeReached l) s = .next
        (s.setLine l { x with st := .tx, driver := true, txPos := 0, inChar := true, charT := 0 }).closing) ∧
      (x.st = .guard → x.attempt = none → exec (.guardTimeReached l) s = .next
        (s.setLine l { x with st := .idle }).closing) ∧
      (x.st = .starting → x.phase = .guardWait → exec (.guardTimeReached l) s = .next
        (s.setLine l { x with phase := .sending, driver := true, txPos := 0, inChar := true, charT := 0 }).closing)) ∧
    (¬reached → exec (.guardTimeReached l) s = .next s.closing) ∧
    (x.quietOn = true → x.cfg.quietTime ≤ x.quietT → exec (.broadcastQuietExpired l) s = .next
      (s.setLine l { x with quietOn := false, quietT := 0, guardT := 0,
                            st := if x.st = .starting ∧ x.phase = .quiet then .guard else x.st }).closing) ∧
    (x.quietOn = false ∨ x.quietT < x.cfg.quietTime →
      exec (.broadcastQuietExpired l) s = .next s.closing)

/-- A break and its end (R34, R35, R36): nothing before the break timer has come to 20 character times. On entry to FAULT, in every state but OFF, the driver is released, the receive
buffer is empty, the RESYNC is owed where it had not been sent whole, the transitions count is up; an attempt in progress
ends with FAULT to its owner; the line joins the pending-notice list; nothing else changes. Recovery is to GUARD, or to
STARTING where the RESYNC is owed, with the guard timer at 0 and the line pending again. That the two events change nothing
before their time, and that the recovery is believed where the wire can have stayed at mark, are the model's choices (log
entries 2 and 5). -/
def Obligations.BreakAndRecovery : Prop :=
  ∀ (s : State) (l : LineId),
    let x := s.line l
    let breakTime := 20 * (10 + x.cfg.stopBits)
    let pending := fun t : State => { t with noticeList := joined t.noticeList (.line l) }
    (x.st ≠ .off → x.st ≠ .fault → breakTime ≤ x.breakT →
      let u := s.setLine l
        { x with st := .fault, attempt := none, driver := false, rxBuf := [], rxCount := 0, foreign := false, txPos := 0
                 resyncOwed := x.st == .starting && x.phase != .quiet
                 transitions := min 255 (x.transitions + 1)
                 markT := 0, space := true, inChar := false }
      (x.attempt = none → exec (.breakDetected l) s = .next (pending u).closing) ∧
      (∀ a, x.attempt = some a →
        let rep := { outcome := .fault, code := 0, data := [], turn := 0
                     sent := x.st == .tx || x.st == .wait || x.st == .rx : Report }
        exec (.breakDetected l) s = .next (pending
          (match a.owner with
          | .slot i => u.slotReport i a.seq rep
          | .poll p => u.pollReport p a.seq rep
          | .probe n => u.probeReport n (some rep))).closing)) ∧
    (x.st = .off ∨ x.st = .fault ∨ x.breakT < breakTime →
      exec (.breakDetected l) s = .next s.closing) ∧
    (x.st = .fault → 2 * (10 + x.cfg.stopBits) ≤ x.markT →
      exec (.faultRecovery l) s = .next
        (pending (s.setLine l
          { x with st := if x.resyncOwed then .starting else .guard, phase := .guardWait, resyncOwed := false, guardT := 0
                   breakT := 0, inChar := false, space := false, transitions := min 255 (x.transitions + 1) })).closing) ∧
    (x.st ≠ .fault ∨ x.markT < 2 * (10 + x.cfg.stopBits) → exec (.faultRecovery l) s = .next s.closing)

/-! ### Outcomes -/

/-- What the outcome of an attempt does to its owner. A transaction: the outcome is recorded, and a BUSY counted where R77 or
R71 counts it; that R77's condition of clear marks holds of a DISCOVER too is the model's reading (log entry 11); then row by row of R82 it is answered (R79; a BROADCAST sent whole R70), rejected (R80), ends with a status,
or is PENDING again at the head of its list (R76, R77). Answered, rejected or ended it leaves its list and releases its
node's open exchange (R55, R60, R74), and is HELD with its result at the tail of its queue's CQ (R89); with reply data to
write it stays ACTIVE, its result settled, and the smaller of length and capacity is requested (R81). The node table takes
the outcome of an EXCHANGE first (R69), and an entry to OFFLINE is completed after it (R51); a RESYNC sent whole sets the
SEQ of its line's records to 0 (R23). A poll instance: a further attempt, or its end with the result, the open exchange
released, and at REPLY_OK the change detection and the storing (R112 to R115); an instance withdrawn meanwhile gives the
node table its outcome alone (R116). That a node goes on the pending-notice list before a poll entry at one instant is the
model's choice (log entry 15). -/
def Obligations.OutcomesSettled : Prop :=
  (∀ (t : Txn) (rep : Report),
    t.recorded rep =
      (if rep.outcome = .replyBusy ∧ t.abortMark = false ∧ t.latePass = false ∧ t.detached = false then
        { t with lastOut := some rep.outcome
                 busies := if t.kind = .discover then 1 else t.busies + 1
                 lastHint := if t.kind = .discover then rep.data.head? else rep.data.head?.or t.lastHint }
      else { t with lastOut := some rep.outcome }) ∧
    (rep.outcome = .replyOk → t.fate rep = .answered) ∧
    (rep.outcome = .replyReject → t.fate rep = .rejected) ∧
    (rep.outcome ≠ .replyOk → rep.outcome ≠ .replyReject →
      let turn := if rep.outcome = .replyBusy then rep.turn else 0
      (t.detached = true → t.fate rep = .ends .nodeDisabled 0 turn) ∧
      (t.detached = false → rep.outcome = .fault → t.fate rep = .ends .lineFault 0 0) ∧
      (t.detached = false → rep.outcome ≠ .fault → t.abortMark = true → t.fate rep = .ends .aborted 0 turn) ∧
      (t.detached = false → rep.outcome ≠ .fault → t.abortMark = false → t.latePass = true →
        t.fate rep = .ends .expired 0 turn) ∧
      (t.detached = false → rep.outcome ≠ .fault → t.abortMark = false → t.latePass = false →
        (rep.outcome = .replyBusy → t.fate rep =
          if t.kind = .discover ∨ t.busyLimit < t.busies then .ends .nodeBusy (t.lastHint.getD 0) rep.turn else .again) ∧
        (rep.outcome ≠ .replyBusy →
          t.fate rep = if t.attempts - t.busies < t.retry.getD 0 + 1 then .again else
            .ends (match rep.outcome with
              | .timeout => .noReply | .checkError => .checkError | .truncated => .truncated | .charError => .lineError
              | _ => .clash) 0 0)))) ∧
  (∀ (s : State) (i : SlotId) (x : Slot) (t : Txn) (rep : Report), s.slot i = some x → x.txn = some t →
    let nd := if t.kind = .exchange then s.findNode t.line t.address else none
    let left : State := match nd with
      | some n => s.setNode n ((s.node n).map fun (r : Node) =>
          ({ r with pendingList := r.pendingList.filter (· != i)
                    openX := if r.openX = some (OpenX.slot i) then none else r.openX } : Node))
      | none =>
        if t.kind = .exchange then s
        else s.setSched t.line { s.sched t.line with lineList := (s.sched t.line).lineList.filter (· != i) }
    let h := nd.bind fun n => (s.node n).map (·.health)
    let held := fun r : Settled =>
      (left.setSlot i (some { x with st := .held, settled := some r })).setCq (s.sq x.sq).cq
        { s.cq (s.sq x.sq).cq with held := (s.cq (s.sq x.sq).cq).held ++ [HeldRef.slot i] }
    (t.fate rep = .answered → t.kind = .broadcast → s.applyFate i t rep =
      held { status := .ok, replyLen := 0, replyCode := 0, turn := 0, nodeState := none, abortLate := t.abortMark,
             outcomeUnk := false }) ∧
    (t.fate rep = .answered → t.kind ≠ .broadcast →
      let r : Settled :=
        { status := if rep.data.length ≤ t.capacity then .ok else .dataTruncated, replyLen := rep.data.length,
          replyCode := rep.code, turn := rep.turn, nodeState := h, abortLate := t.abortMark, outcomeUnk := false }
      (rep.data = [] ∨ t.capacity = 0 → s.applyFate i t rep = held r) ∧
      (rep.data ≠ [] → t.capacity ≠ 0 → s.applyFate i t rep =
        { left.setSlot i (some { x with settled := some r }) with
          quWrites := s.quWrites ++ [{ addr := t.buffer, data := rep.data.take t.capacity, use := .reply i }] })) ∧
    (t.fate rep = .rejected → s.applyFate i t rep =
      held { status := .rejected, replyLen := 0, replyCode := rep.data.headD 0, turn := rep.turn, nodeState := h,
             abortLate := t.abortMark, outcomeUnk := false }) ∧
    (∀ st code turn, t.fate rep = .ends st code turn → s.applyFate i t rep =
      held { status := st, replyLen := 0, replyCode := code, turn := turn, nodeState := h, abortLate := false,
             outcomeUnk := false }) ∧
    (t.fate rep = .again → s.applyFate i t rep = s.setSlot i (some { x with st := .pending }))) ∧
  (∀ (s : State) (rep : Report) (q : Bool),
    let silent := rep.outcome = .timeout ∨ rep.outcome = .checkError ∨ rep.outcome = .truncated ∨ rep.outcome = .charError
    let down := fun nd : Node => silent ∧ (nd.health = .unknown ∨ nd.health = .online ∨ nd.health = .suspect) ∧
      (if nd.offThresh = 0 then (s.line nd.line).cfg.offThresh else nd.offThresh) ≤ min 15 (nd.failures + 1)
    (∀ (i : SlotId) (x : Slot) (t0 : Txn), s.slot i = some x → x.txn = some t0 → x.st = .active → x.settled = none →
      let t := t0.recorded rep
      let u := s.setSlot i (some { x with txn := some t })
      let ends := decide (t.fate rep ≠ .again)
      (∀ n nd, t.kind = .exchange → s.findNode t.line t.address = some n → s.node n = some nd →
        s.slotReport i q rep =
          let v := (u.nodeReport n q ends rep).applyFate i t rep
          if ends = true ∧ down nd then v.offlineFlush n else v) ∧
      (t.kind = .exchange → s.findNode t.line t.address = none → s.slotReport i q rep = u.applyFate i t rep) ∧
      (t.kind ≠ .exchange → s.slotReport i q rep =
        if t.kind = .broadcast ∧ t.function = 0x3F#8 ∧ rep.outcome = .replyOk then (u.applyFate i t rep).zeroSeq t.line
        else u.applyFate i t rep)) ∧
    (∀ i x, s.slot i = some x → x.st ≠ .active ∨ x.settled ≠ none → s.slotReport i q rep = s) ∧
    (∀ (p : PollId) (e : Poll) (nd : Node), s.poll p = some e → s.node e.node = some nd →
      let flush := fun v : State => if down nd then v.offlineFlush e.node else v
      let result := match rep.outcome with
        | .timeout => Status.noReply | .checkError => .checkError | .truncated => .truncated | .charError => .lineError
        | .clash => .clash | .fault => .lineFault | .replyOk => .ok | .replyReject => .rejected | .replyBusy => .nodeBusy
      (e.inst = none → s.pollReport p q rep =
        flush ((s.setPoll p (some { e with running := false })).nodeReport e.node q true rep)) ∧
      (∀ k, e.inst = some k →
        let further := (silent ∨ rep.outcome = .clash) ∧ k.attempts < k.retry + 1
        let u := s.nodeReport e.node q true rep
        let v := u.setNode e.node ((u.node e.node).map fun (r : Node) =>
          ({ r with openX := if r.openX = some (OpenX.poll p) then none else r.openX } : Node))
        let changed := e.baseline = false ∨ rep.data.length ≠ e.stored.length ∨
          ∃ j < rep.data.length, e.compare.getLsbD j = true ∧ byteAt rep.data j ≠ byteAt e.stored j
        (further → s.pollReport p q rep =
          (s.setPoll p (some { e with running := false, inst := some { k with lastOut := some rep.outcome } })).nodeReport
            e.node q false rep) ∧
        (¬further → rep.outcome = .replyOk →
          let w := { e with inst := none, running := false, lastResult := some Status.ok, baseline := true,
                            stored := rep.data }
          (¬changed → s.pollReport p q rep = v.setPoll p (some w)) ∧
          (changed → s.pollReport p q rep =
            { v.setPoll p (some { w with change := true }) with noticeList := joined v.noticeList (.poll p) })) ∧
        (¬further → rep.outcome ≠ .replyOk → s.pollReport p q rep =
          flush (v.setPoll p (some
            { e with inst := none, running := false, lastResult := some result, baseline := false }))))))

/-- What the node table takes of an outcome (R48 to R51, R56, R57, R61, R63): an answer, a BUSY, a silent failure, and nothing
of CLASH and FAULT or of an attempt that a further one follows; a DISABLED record takes its SEQ, its turnarounds and its
counts (R54). The rest of an entry to OFFLINE (R51): the pending list completes NODE_OFFLINE in list order, the ACTIVE poll
entries are withdrawn and suspended (R117), the node is a notice source. A probe's report (R59): an answer brings the node
back with SEQ 0 and resumes its polls (R118), every other end sets the next probe; a record that is no longer OFFLINE, or
has the removal mark, takes nothing (R47). Two clauses are the model's readings: an OFFLINE record takes an answer of a
transaction as R48's general sentence says (log entry 11); and the reply length, reply code and turnaround of the
NODE_OFFLINE completions, which R51 does not give, are zeros (log entry 9). -/
def Obligations.NodeHealth : Prop :=
  ∀ (s : State) (n : NodeId) (nd : Node), s.node n = some nd →
    let cfg := (s.line nd.line).cfg
    let thresh := if nd.offThresh = 0 then cfg.offThresh else nd.offThresh
    let serves := nd.health = .unknown ∨ nd.health = .online ∨ nd.health = .suspect
    let up := min 255 (nd.transitions + 1)
    let probeAt := some (s.ms + BitVec.ofNat 32 cfg.probeIval)
    let noticed := fun (t : State) (r : Node) =>
      { t.setNode n (some { r with noticeMark := true }) with noticeList := joined t.noticeList (.node n) }
    let turned := fun k : Nat => { nd with lastTurn := k, maxTurn := max nd.maxTurn k }
    (∀ (q final : Bool) (rep : Report),
      let silent := rep.outcome = .timeout ∨ rep.outcome = .checkError ∨ rep.outcome = .truncated ∨
        rep.outcome = .charError
      (rep.outcome = .replyOk ∨ rep.outcome = .replyReject →
        let r := { turned rep.turn with
          seq := !q, successes := min 4294967295 (nd.successes + 1)
          failures := if nd.health = .disabled then nd.failures else 0
          health := if nd.health = .disabled then Health.disabled else .online
          transitions := if nd.health = .suspect ∨ nd.health = .offline then up else nd.transitions
          nextProbe := if nd.health = .offline then none else nd.nextProbe
          probeDue := if nd.health = .offline then false else nd.probeDue
          promoted := if nd.health = .offline then false else nd.promoted }
        s.nodeReport n q final rep =
          if nd.health = .unknown ∨ nd.health = .offline then noticed s r else s.setNode n (some r)) ∧
      (rep.outcome = .replyBusy →
        (nd.health = .disabled → s.nodeReport n q final rep = s.setNode n (some (turned rep.turn))) ∧
        (serves →
          let r := { turned rep.turn with
            failures := 0, health := Health.online
            transitions := if nd.health = .suspect then up else nd.transitions
            holdOffEnd := some (s.ms + BitVec.ofNat 32 (match rep.data.head? with
              | some h => if h = 0 then cfg.busyHold else 10 * h.toNat
              | none => cfg.busyHold)) }
          s.nodeReport n q final rep = if nd.health = .unknown then noticed s r else s.setNode n (some r))) ∧
      (silent → final = true →
        let c := { nd with silents := min 4294967295 (nd.silents + 1) }
        let f := min 15 (nd.failures + 1)
        (serves → f < thresh → s.nodeReport n q final rep = s.setNode n (some
          { c with failures := f, health := Health.suspect
                   transitions := if nd.health = .online then up else nd.transitions })) ∧
        (serves → thresh ≤ f → s.nodeReport n q final rep = s.setNode n (some
          { c with failures := f, health := Health.offline, openX := none, holdOffEnd := none, nextProbe := probeAt,
                   probeDue := false, promoted := false
                   transitions := if nd.health = .unknown then nd.transitions else up })) ∧
        (¬serves → s.nodeReport n q final rep = s.setNode n (some c))) ∧
      (rep.outcome = .clash ∨ rep.outcome = .fault ∨ (silent ∧ final = false) → s.nodeReport n q final rep = s)) ∧
    (∃ v : State,
      v = (nd.pendingList.foldl (fun t i => if t.isPending i then t.complete i .nodeOffline 0 0 false else t) s).suspendNode
        n ∧
      (s.offlineFlush n).noticeList = joined v.noticeList (.node n) ∧
      s.offlineFlush n = { v.setNode n ((v.node n).map fun (r : Node) => ({ r with noticeMark := true } : Node)) with
        noticeList := (s.offlineFlush n).noticeList }) ∧
    (∃ v, s.suspendNode n = v ∧ v = { s with polls := v.polls, nodes := v.nodes } ∧
      (∀ p, s.poll p = none → v.poll p = none) ∧
      (∀ p e, s.poll p = some e →
        let goes := e.node = n ∧ e.st = .active ∧ e.removal = false
        (goes → v.poll p = some
          { e with st := .suspended, due := false, inst := none, baseline := false, nextDue := none }) ∧
        (¬goes → v.poll p = some e)) ∧
      (∀ m, m ≠ n → v.node m = s.node m) ∧
      ((∃ p e, s.poll p = some e ∧ e.node = n ∧ e.st = .active ∧ e.removal = false ∧ e.inst ≠ none ∧
          nd.openX = some (.poll p)) → v.node n = some { nd with openX := none }) ∧
      ((∀ p e, s.poll p = some e → e.node = n → e.st = .active → e.removal = false → e.inst ≠ none →
          nd.openX ≠ some (.poll p)) → v.node n = some nd)) ∧
    (nd.health ≠ .offline ∨ nd.removal = true → ∀ rep, s.probeReport n rep = s) ∧
    (nd.health = .offline → nd.removal = false →
      let later := { nd with nextProbe := probeAt, probeDue := false, promoted := false }
      s.probeReport n none = s.setNode n (some later) ∧
      ∀ rep : Report,
        (rep.outcome = .replyBusy → s.probeReport n (some rep) = s.setNode n (some
          { later with lastTurn := rep.turn, maxTurn := max nd.maxTurn rep.turn })) ∧
        (rep.outcome ≠ .replyOk → rep.outcome ≠ .replyReject → rep.outcome ≠ .replyBusy →
          s.probeReport n (some rep) = s.setNode n (some later)) ∧
        (rep.outcome = .replyOk ∨ rep.outcome = .replyReject →
          ∃ t, s.probeReport n (some rep) = t ∧
            t = { noticed s { turned rep.turn with
                  seq := false, failures := 0, nextProbe := none, health := .online, probeDue := false, promoted := false
                  transitions := up, successes := min 4294967295 (nd.successes + 1) } with polls := t.polls } ∧
            (∀ p, s.poll p = none → t.poll p = none) ∧
            ∀ p e, s.poll p = some e →
              let back := (s.line nd.line).st ≠ .off ∧ e.node = n ∧ e.st = .suspended ∧ e.removal = false
              (back → t.poll p = some { e with st := .active, nextDue := some s.ms, baseline := false }) ∧
              (¬back → t.poll p = some e)))

/-! ### Expiries -/

/-- The expiries of the timebase (R57, R58, R83, R98, R109, R148, R149): each acts when the count has reached its time,
compared modulo 2^32 (R182), and a delay timer when its elapsed time has reached the delay; a probe's promotion acts where
its line's scheduler can choose and is what SchedulerOrder says of the choice. Before its time, with no time set, and in OFF
and FATAL, none changes anything; a promotion changes nothing under a stop request or with a probe's attempt running either.
That an expiry before its time changes nothing as a command, and one whose time has passed still acts, are the model's choices
(log entries 1 and 2), and so is what a promotion apart from a choice does (log entry 16). -/
def Obligations.Expiries : Prop :=
  ∀ s : State,
    let live := s.ctl = .running ∨ s.ctl = .draining ∨ s.ctl = .stopped
    let reached := fun d : Word => (s.ms - d).toNat < 2147483648
    (¬live → (∀ i, exec (.deadlineExpired i) s = .next s) ∧
      (∀ n, exec (.holdOffEnd n) s = .next s ∧ exec (.probeDue n) s = .next s ∧ exec (.probePromoted n) s = .next s) ∧
      (∀ p, exec (.periodExpiry p) s = .next s) ∧ ∀ c, exec (.aggregatorTimerExpired c) s = .next s) ∧
    (live →
      (∀ i x t d, s.slot i = some x → x.txn = some t → t.deadline = some d →
        (reached d → x.st = .pending → exec (.deadlineExpired i) s = .next (s.complete i .expired 0 0 false).closing) ∧
        (reached d → x.st = .active → x.settled = none → exec (.deadlineExpired i) s = .next
          (s.setSlot i (some { x with txn := some { t with latePass := true } })).closing) ∧
        (¬reached d ∨ (x.st = .active ∧ x.settled ≠ none) ∨ x.st = .held ∨ x.st = .fetching →
          exec (.deadlineExpired i) s = .next s)) ∧
      (∀ n r d, s.node n = some r → r.holdOffEnd = some d → exec (.holdOffEnd n) s = .next
        (if reached d then s.setNode n (some { r with holdOffEnd := none }) else s)) ∧
      (∀ n r d, s.node n = some r → r.nextProbe = some d → exec (.probeDue n) s = .next
        (if reached d ∧ r.health = .offline ∧ (∀ a, (s.line r.line).attempt = some a → a.owner ≠ .probe n) then
          s.setNode n (some { r with probeDue := true })
        else s)) ∧
      (∀ p e d, s.poll p = some e → e.nextDue = some d → exec (.periodExpiry p) s = .next
        (if reached d ∧ e.st = .active ∧ e.removal = false then
          s.setPoll p (some
            { e with nextDue := some (d + BitVec.ofNat 32 e.period)
                     due := e.due || e.inst.isNone
                     missed := if e.due = true ∨ e.inst.isSome = true then min 255 (e.missed + 1) else e.missed })
        else s)) ∧
      (∀ c k, (s.cq c).timer = .running k → exec (.aggregatorTimerExpired c) s = .next
        (if (s.cq c).delay ≤ k then
          s.setCq c { s.cq c with timer := .expired, cause := (s.cq c).cause || (s.cq c).irqEnable }
        else s))) ∧
    (∀ n r d, s.node n = some r → r.nextProbe = some d → s.ctl = .running → r.health = .offline →
      (s.line r.line).st = .idle → (s.line r.line).stopRequested = false →
      (∀ a, (s.line r.line).attempt = some a → a.owner ≠ .probe n) →
      reached (d + BitVec.ofNat 32 (s.line r.line).cfg.probeIval) → reached d →
      exec (.probePromoted n) s = .next (s.setNode n (some { r with probeDue := true, promoted := true }))) ∧
    (∀ n r, s.node n = some r →
      s.ctl ≠ .running ∨ r.health ≠ .offline ∨ (s.line r.line).st ≠ .idle ∨ (s.line r.line).stopRequested = true ∨
        (∃ a, (s.line r.line).attempt = some a ∧ a.owner = .probe n) ∨
        (r.promoted = false ∧
          ∀ d, r.nextProbe = some d → ¬reached (d + BitVec.ofNat 32 (s.line r.line).cfg.probeIval)) →
      exec (.probePromoted n) s = .next s) ∧
    (∀ n, (∀ r, s.node n = some r → r.holdOffEnd = none) → exec (.holdOffEnd n) s = .next s) ∧
    (∀ n, (∀ r, s.node n = some r → r.nextProbe = none) → exec (.probeDue n) s = .next s) ∧
    (∀ n, s.node n = none → exec (.probePromoted n) s = .next s) ∧
    (∀ i, (∀ x t, s.slot i = some x → x.txn = some t → t.deadline = none) → exec (.deadlineExpired i) s = .next s) ∧
    (∀ p, (∀ e, s.poll p = some e → e.nextDue = none) → exec (.periodExpiry p) s = .next s) ∧
    (∀ c, (∀ k, (s.cq c).timer ≠ .running k) → exec (.aggregatorTimerExpired c) s = .next s)

/-! ### Conditions that come to hold -/

/-- The rows for conditions (R37, R47, R117, R121, R129, R131, R143, R151, R153): each, when its condition holds, does what
its rule gives; a ready command's completion may follow. The same closes the object of a waiting command in the step in
which its condition comes to hold, and nothing closes it before. A draining line enters OFF with the four conditions of R37,
although R91 has it wait for a settled transaction whose reply data are being written (the model's choice, log entry 18); as
it enters OFF its ACTIVE poll entries without the removal mark are withdrawn and SUSPENDED, and a node's open exchange that
names one of their instances becomes absent (R116, R117). That such a row as a command acts only where nothing has acted yet
(log entry 3), the values of the fields of an ABSENT queue that R129 and R131 only discard, written out here (log entry 8),
and that the line in OFF keeps the level of its wire (log entry 5), are the model's choices. -/
def Obligations.ConditionsComeToHold : Prop :=
  (∀ (s : State) (l : LineId), ∃ v, s.suspendLine l = v ∧ v = { s with polls := v.polls, nodes := v.nodes } ∧
    (∀ p, s.poll p = none → v.poll p = none) ∧
    (∀ p e, s.poll p = some e →
      let goes := e.st = .active ∧ e.removal = false ∧ ∃ r, s.node e.node = some r ∧ r.line = l
      (goes → v.poll p = some
        { e with st := .suspended, due := false, inst := none, baseline := false, nextDue := none }) ∧
      (¬goes → v.poll p = some e)) ∧
    (∀ n, s.node n = none → v.node n = none) ∧
    ∀ n r, s.node n = some r →
      let freed := r.line = l ∧ ∃ p e, s.poll p = some e ∧ e.node = n ∧ e.st = .active ∧ e.removal = false ∧
        e.inst ≠ none ∧ r.openX = some (.poll p)
      (freed → v.node n = some { r with openX := none }) ∧ (¬freed → v.node n = some r)) ∧
  (∀ s : State, (s.ctl = .running ∨ s.ctl = .draining ∨ s.ctl = .stopped) →
    (∀ l, (s.line l).stopRequested = true → (s.line l).attempt = none →
      ((s.line l).st = .idle ∨ (s.line l).st = .guard ∨ (s.line l).st = .settle ∨ (s.line l).st = .fault) →
      (s.sched l).lineList = [] → (∀ n r, s.node n = some r → r.line = l → r.pendingList = []) →
      exec (.lineEntersOff l) s = .next
        (((s.setLine l { Line.offWith (s.line l).cfg (s.line l).transitions
            ((s.line l).space || (s.line l).inChar) with
            driver := (s.line l).driver }).suspendLine l).makeReady (.line l)).readyResult) ∧
    (∀ n r, s.node n = some r → r.removal = true → r.pendingList = [] → s.probing r.line n = false →
      s.detachedRuns r = false →
      exec (.nodeRecordVacant n) s = .next (((s.setNode n none).unpend (.node n)).makeReady (.node n)).readyResult) ∧
    (∀ p e, s.poll p = some e → e.removal = true → e.running = false →
      exec (.pollEntryEmpty p) s = .next (s.pollEmpty p).readyResult ∧ (s.pollEmpty p).poll p = none ∧
        Source.poll p ∉ (s.pollEmpty p).noticeList) ∧
    (∀ q, (s.sq q).st = .deleting → (∀ i x, s.slot i = some x → x.sq ≠ q) →
      exec (.sqBecomesAbsent q) s = .next (s.sqAbsent q).readyResult ∧ ((s.sqAbsent q).sq q).st = .absent ∧
        Source.sq q ∉ (s.sqAbsent q).noticeList) ∧
    (∀ c, (s.cq c).st = .deleting → (∀ e, s.writer = some e → e.cq ≠ c) →
      exec (.cqBecomesAbsent c) s = .next (s.cqAbsent c).readyResult ∧ ((s.cqAbsent c).cq c).st = .absent ∧
        ((s.cqAbsent c).cq c).cause = false ∧ ((s.cqAbsent c).cq c).count = 0 ∧
        ((s.cqAbsent c).cq c).timer = .stopped ∧ Source.cq c ∉ (s.cqAbsent c).noticeList)) ∧
  (∀ s : State,
    let ready := fun (t : State) (x : Source) =>
      { t with waiting := t.waiting.filter (fun w => w.obj != x)
               ready := t.ready ++ t.waiting.filter (fun w => w.obj == x) }
    let gone := fun (t : State) (x : Source) => ready { t with noticeList := t.noticeList.filter (· != x) } x
    (∀ q, s.sqAbsent q = gone (s.setSq q
        { st := .absent, base := 0, size := 0, head := 0, tail := 0, cq := 0, cls := .normal, quota := 0, error := none,
          noticeMark := false }) (.sq q) ∧
      ((s.sq q).st = .deleting → (∀ i x, s.slot i = some x → x.sq ≠ q) → s.closeObj (.sq q) = s.sqAbsent q) ∧
      ((s.sq q).st ≠ .deleting ∨ (∃ i x, s.slot i = some x ∧ x.sq = q) → s.closeObj (.sq q) = s)) ∧
    (∀ c, s.cqAbsent c = gone (s.setCq c
        { st := .absent, base := 0, size := 0, head := 0, tail := 0, unreleased := 0, phase := true, irqEnable := false,
          threshold := 1, delay := 0, held := [], lastKind := .notice, error := none, noticeMark := false, count := 0,
          timer := .stopped, cause := false }) (.cq c) ∧
      ((s.cq c).st = .deleting → (∀ e, s.writer = some e → e.cq ≠ c) → s.closeObj (.cq c) = s.cqAbsent c) ∧
      ((s.cq c).st ≠ .deleting ∨ (∃ e, s.writer = some e ∧ e.cq = c) → s.closeObj (.cq c) = s)) ∧
    (∀ l,
      let due := (s.line l).stopRequested = true ∧ (s.line l).attempt = none ∧
        ((s.line l).st = .idle ∨ (s.line l).st = .guard ∨ (s.line l).st = .settle ∨ (s.line l).st = .fault) ∧
        (s.sched l).lineList = [] ∧ (∀ n r, s.node n = some r → r.line = l → r.pendingList = [])
      (due → s.closeObj (.line l) =
        ready ((s.setLine l { Line.offWith (s.line l).cfg (s.line l).transitions
          ((s.line l).space || (s.line l).inChar) with
          driver := (s.line l).driver }).suspendLine l) (.line l)) ∧
      (¬due → s.closeObj (.line l) = s)) ∧
    (∀ n,
      let due := ∃ r, s.node n = some r ∧ r.removal = true ∧ r.pendingList = [] ∧
        (∀ a, (s.line r.line).attempt = some a → a.owner ≠ .probe n) ∧
        (∀ i x t, s.slot i = some x → x.txn = some t → x.st = .active → x.settled = none →
          ¬(t.detached = true ∧ t.kind = .exchange ∧ t.line = r.line ∧ t.address = r.address))
      (due → s.closeObj (.node n) = gone (s.setNode n none) (.node n)) ∧ (¬due → s.closeObj (.node n) = s)) ∧
    (∀ p,
      let due := ∃ e, s.poll p = some e ∧ e.removal = true ∧ e.running = false
      (due → s.closeObj (.poll p) =
        { gone (s.setPoll p none) (.poll p) with
          writer := s.writer.map fun e =>
            match e.work with
            | .pollData p' n st len lost => { e with work := .pollData p' n st len (lost || p' == p) }
            | _ => e }) ∧
      (¬due → s.closeObj (.poll p) = s)))

/-! ### The whole machine -/

/-- The state after reset meets every invariant below. -/
def Obligations.ResetMeetsTheInvariants : Prop :=
  State.reset.NoticesOnce ∧ State.reset.KeysUnique ∧ State.reset.OneInstance ∧ State.reset.QuotaKept ∧
    State.reset.RingsKept ∧ State.reset.Quiet

/-- Each source is on the pending-notice list at most once, at every step (R141). -/
def Obligations.NoticesOnceKept : Prop :=
  ∀ s t : State, s.NoticesOnce → step s = .next t → t.NoticesOnce

/-- No two node records share the same line and address, at every step (R42). -/
def Obligations.KeysUniqueKept : Prop :=
  ∀ s t : State, s.KeysUnique → step s = .next t → t.KeysUnique

/-- Each poll entry has at most one instance due or in flight, at every step (R110). -/
def Obligations.OneInstanceKept : Prop :=
  ∀ s t : State, s.OneInstance → step s = .next t → t.OneInstance

/-- The slots held for a host SQ never exceed its quota, at every step (R66). -/
def Obligations.QuotaStaysKept : Prop :=
  ∀ s t : State, s.QuotaKept → step s = .next t → t.QuotaKept

/-- A CQ's tail is its head plus its unreleased count, which never exceeds its size, at every step (R131, R134). -/
def Obligations.RingsStayKept : Prop :=
  ∀ s t : State, s.RingsKept → step s = .next t → t.RingsKept

/-- A line drives its output in TX, in the sending phase of STARTING, and for the rest of a character that an aborting STOP LINE
found being sent (R38), nowhere else; its attempt stands as its state says; and in OFF, STOPPED and FATAL nothing is written to
host memory and no attempt is on any line, at every step (R15, R16, R181). R15 has the driver of a line in OFF released and R16
has a line drive in TX or STARTING only: that the driver stays enabled in OFF to the end of the cut character, and in the guard
wait of a STARTING that follows before that end, is the model's reading and choice (log entry 5). -/
def Obligations.QuietStaysKept : Prop :=
  ∀ s t : State, s.Quiet → step s = .next t → t.Quiet

/-- Nothing changes a HELD slot but the writing of its completion and the resets, no other command and no tick (R89, R90,
R139). -/
def Obligations.HeldSlotsStay : Prop :=
  ∀ (s t : State) (i : SlotId) (x : Slot), s.slot i = some x → x.st = .held →
    (∃ c, ¬mayEndHeld c ∧ exec c s = .next t) ∨ (s.pending = [] ∧ step s = .next t) → t.slot i = some x

/-- A record's SEQ changes in no step but the end of a character, received or sent, and SET NODE: in no other command and in
no tick (R56). -/
def Obligations.SeqChangesOnlyWhereItMay : Prop :=
  ∀ (s t : State) (n : NodeId) (r q : Node),
    (∃ c, ¬mayMoveSeq c ∧ exec c s = .next t) ∨ (s.pending = [] ∧ step s = .next t) → s.node n = some r →
    t.node n = some q → q.seq = r.seq
end

