-- ==== Sys2Proof/Laws/State.lean ====
section
/-! SUPPORT. One lemma per field per update of the state, each true by rfl, and what an update of one element of a table
leaves of the others. -/

namespace Sys2Proof.Machine

variable (s : State)

theorem State.line_setLine (i j : LineId) (x : Line) : (s.setLine i x).line j = if i = j then x else s.line j := by
  simp [State.line, State.setLine, Vector.getElem_set, Fin.ext_iff]

@[simp] theorem State.line_setLine_self (i : LineId) (x : Line) : (s.setLine i x).line i = x := by
  simp [State.line_setLine]

theorem State.line_setLine_ne {i j : LineId} (h : i ≠ j) (x : Line) : (s.setLine i x).line j = s.line j := by
  simp [State.line_setLine, h]

theorem State.sched_setSched (i j : LineId) (x : Sched) : (s.setSched i x).sched j = if i = j then x else s.sched j := by
  simp [State.sched, State.setSched, Vector.getElem_set, Fin.ext_iff]

@[simp] theorem State.sched_setSched_self (i : LineId) (x : Sched) : (s.setSched i x).sched i = x := by
  simp [State.sched_setSched]

theorem State.sched_setSched_ne {i j : LineId} (h : i ≠ j) (x : Sched) : (s.setSched i x).sched j = s.sched j := by
  simp [State.sched_setSched, h]

theorem State.node_setNode (i j : NodeId) (x : Option Node) : (s.setNode i x).node j = if i = j then x else s.node j := by
  simp [State.node, State.setNode, Vector.getElem_set, Fin.ext_iff]

@[simp] theorem State.node_setNode_self (i : NodeId) (x : Option Node) : (s.setNode i x).node i = x := by
  simp [State.node_setNode]

theorem State.node_setNode_ne {i j : NodeId} (h : i ≠ j) (x : Option Node) : (s.setNode i x).node j = s.node j := by
  simp [State.node_setNode, h]

theorem State.slot_setSlot (i j : SlotId) (x : Option Slot) : (s.setSlot i x).slot j = if i = j then x else s.slot j := by
  simp [State.slot, State.setSlot, Vector.getElem_set, Fin.ext_iff]

@[simp] theorem State.slot_setSlot_self (i : SlotId) (x : Option Slot) : (s.setSlot i x).slot i = x := by
  simp [State.slot_setSlot]

theorem State.slot_setSlot_ne {i j : SlotId} (h : i ≠ j) (x : Option Slot) : (s.setSlot i x).slot j = s.slot j := by
  simp [State.slot_setSlot, h]

theorem State.poll_setPoll (i j : PollId) (x : Option Poll) : (s.setPoll i x).poll j = if i = j then x else s.poll j := by
  simp [State.poll, State.setPoll, Vector.getElem_set, Fin.ext_iff]

@[simp] theorem State.poll_setPoll_self (i : PollId) (x : Option Poll) : (s.setPoll i x).poll i = x := by
  simp [State.poll_setPoll]

theorem State.poll_setPoll_ne {i j : PollId} (h : i ≠ j) (x : Option Poll) : (s.setPoll i x).poll j = s.poll j := by
  simp [State.poll_setPoll, h]

theorem State.sq_setSq (i j : SqId) (x : Sq) : (s.setSq i x).sq j = if i = j then x else s.sq j := by
  simp [State.sq, State.setSq, Vector.getElem_set, Fin.ext_iff]

@[simp] theorem State.sq_setSq_self (i : SqId) (x : Sq) : (s.setSq i x).sq i = x := by
  simp [State.sq_setSq]

theorem State.sq_setSq_ne {i j : SqId} (h : i ≠ j) (x : Sq) : (s.setSq i x).sq j = s.sq j := by
  simp [State.sq_setSq, h]

theorem State.cq_setCq (i j : CqId) (x : Cq) : (s.setCq i x).cq j = if i = j then x else s.cq j := by
  simp [State.cq, State.setCq, Vector.getElem_set, Fin.ext_iff]

@[simp] theorem State.cq_setCq_self (i : CqId) (x : Cq) : (s.setCq i x).cq i = x := by
  simp [State.cq_setCq]

theorem State.cq_setCq_ne {i j : CqId} (h : i ≠ j) (x : Cq) : (s.setCq i x).cq j = s.cq j := by
  simp [State.cq_setCq, h]

@[simp] theorem State.setLine_ctl (i : LineId) (x : Line) : (s.setLine i x).ctl = s.ctl := rfl
@[simp] theorem State.setLine_fatalCause (i : LineId) (x : Line) : (s.setLine i x).fatalCause = s.fatalCause := rfl
@[simp] theorem State.setLine_configError (i : LineId) (x : Line) : (s.setLine i x).configError = s.configError := rfl
@[simp] theorem State.setLine_asqBase (i : LineId) (x : Line) : (s.setLine i x).asqBase = s.asqBase := rfl
@[simp] theorem State.setLine_acqBase (i : LineId) (x : Line) : (s.setLine i x).acqBase = s.acqBase := rfl
@[simp] theorem State.setLine_adminSqSize (i : LineId) (x : Line) : (s.setLine i x).adminSqSize = s.adminSqSize := rfl
@[simp] theorem State.setLine_adminCqSize (i : LineId) (x : Line) : (s.setLine i x).adminCqSize = s.adminCqSize := rfl
@[simp] theorem State.setLine_fatalIrq (i : LineId) (x : Line) : (s.setLine i x).fatalIrq = s.fatalIrq := rfl
@[simp] theorem State.setLine_thirds (i : LineId) (x : Line) : (s.setLine i x).thirds = s.thirds := rfl
@[simp] theorem State.setLine_ms (i : LineId) (x : Line) : (s.setLine i x).ms = s.ms := rfl
@[simp] theorem State.setLine_scheds (i : LineId) (x : Line) : (s.setLine i x).scheds = s.scheds := rfl
@[simp] theorem State.setLine_nodes (i : LineId) (x : Line) : (s.setLine i x).nodes = s.nodes := rfl
@[simp] theorem State.setLine_slots (i : LineId) (x : Line) : (s.setLine i x).slots = s.slots := rfl
@[simp] theorem State.setLine_polls (i : LineId) (x : Line) : (s.setLine i x).polls = s.polls := rfl
@[simp] theorem State.setLine_sqs (i : LineId) (x : Line) : (s.setLine i x).sqs = s.sqs := rfl
@[simp] theorem State.setLine_cqs (i : LineId) (x : Line) : (s.setLine i x).cqs = s.cqs := rfl
@[simp] theorem State.setLine_fetch (i : LineId) (x : Line) : (s.setLine i x).fetch = s.fetch := rfl
@[simp] theorem State.setLine_fetchPosU (i : LineId) (x : Line) : (s.setLine i x).fetchPosU = s.fetchPosU := rfl
@[simp] theorem State.setLine_fetchPosN (i : LineId) (x : Line) : (s.setLine i x).fetchPosN = s.fetchPosN := rfl
@[simp] theorem State.setLine_writer (i : LineId) (x : Line) : (s.setLine i x).writer = s.writer := rfl
@[simp] theorem State.setLine_writerPos (i : LineId) (x : Line) : (s.setLine i x).writerPos = s.writerPos := rfl
@[simp] theorem State.setLine_noticeList (i : LineId) (x : Line) : (s.setLine i x).noticeList = s.noticeList := rfl
@[simp] theorem State.setLine_noticeCq (i : LineId) (x : Line) : (s.setLine i x).noticeCq = s.noticeCq := rfl
@[simp] theorem State.setLine_adminWork (i : LineId) (x : Line) : (s.setLine i x).adminWork = s.adminWork := rfl
@[simp] theorem State.setLine_adminResult (i : LineId) (x : Line) : (s.setLine i x).adminResult = s.adminResult := rfl
@[simp] theorem State.setLine_waiting (i : LineId) (x : Line) : (s.setLine i x).waiting = s.waiting := rfl
@[simp] theorem State.setLine_ready (i : LineId) (x : Line) : (s.setLine i x).ready = s.ready := rfl
@[simp] theorem State.setLine_quRead (i : LineId) (x : Line) : (s.setLine i x).quRead = s.quRead := rfl
@[simp] theorem State.setLine_quWrites (i : LineId) (x : Line) : (s.setLine i x).quWrites = s.quWrites := rfl
@[simp] theorem State.setLine_adRead (i : LineId) (x : Line) : (s.setLine i x).adRead = s.adRead := rfl
@[simp] theorem State.setLine_adWrite (i : LineId) (x : Line) : (s.setLine i x).adWrite = s.adWrite := rfl
@[simp] theorem State.setLine_nuWrite (i : LineId) (x : Line) : (s.setLine i x).nuWrite = s.nuWrite := rfl
@[simp] theorem State.setLine_answer (i : LineId) (x : Line) : (s.setLine i x).answer = s.answer := rfl
@[simp] theorem State.setLine_pending (i : LineId) (x : Line) : (s.setLine i x).pending = s.pending := rfl
@[simp] theorem State.setLine_sched (i : LineId) (x : Line) (k : LineId) : (s.setLine i x).sched k = s.sched k := rfl
@[simp] theorem State.setLine_node (i : LineId) (x : Line) (k : NodeId) : (s.setLine i x).node k = s.node k := rfl
@[simp] theorem State.setLine_slot (i : LineId) (x : Line) (k : SlotId) : (s.setLine i x).slot k = s.slot k := rfl
@[simp] theorem State.setLine_poll (i : LineId) (x : Line) (k : PollId) : (s.setLine i x).poll k = s.poll k := rfl
@[simp] theorem State.setLine_sq (i : LineId) (x : Line) (k : SqId) : (s.setLine i x).sq k = s.sq k := rfl
@[simp] theorem State.setLine_cq (i : LineId) (x : Line) (k : CqId) : (s.setLine i x).cq k = s.cq k := rfl

@[simp] theorem State.modLine_ctl (i : LineId) (f : Line → Line) : (s.modLine i f).ctl = s.ctl := rfl
@[simp] theorem State.modLine_fatalCause (i : LineId) (f : Line → Line) : (s.modLine i f).fatalCause = s.fatalCause := rfl
@[simp] theorem State.modLine_configError (i : LineId) (f : Line → Line) : (s.modLine i f).configError = s.configError := rfl
@[simp] theorem State.modLine_asqBase (i : LineId) (f : Line → Line) : (s.modLine i f).asqBase = s.asqBase := rfl
@[simp] theorem State.modLine_acqBase (i : LineId) (f : Line → Line) : (s.modLine i f).acqBase = s.acqBase := rfl
@[simp] theorem State.modLine_adminSqSize (i : LineId) (f : Line → Line) : (s.modLine i f).adminSqSize = s.adminSqSize := rfl
@[simp] theorem State.modLine_adminCqSize (i : LineId) (f : Line → Line) : (s.modLine i f).adminCqSize = s.adminCqSize := rfl
@[simp] theorem State.modLine_fatalIrq (i : LineId) (f : Line → Line) : (s.modLine i f).fatalIrq = s.fatalIrq := rfl
@[simp] theorem State.modLine_thirds (i : LineId) (f : Line → Line) : (s.modLine i f).thirds = s.thirds := rfl
@[simp] theorem State.modLine_ms (i : LineId) (f : Line → Line) : (s.modLine i f).ms = s.ms := rfl
@[simp] theorem State.modLine_scheds (i : LineId) (f : Line → Line) : (s.modLine i f).scheds = s.scheds := rfl
@[simp] theorem State.modLine_nodes (i : LineId) (f : Line → Line) : (s.modLine i f).nodes = s.nodes := rfl
@[simp] theorem State.modLine_slots (i : LineId) (f : Line → Line) : (s.modLine i f).slots = s.slots := rfl
@[simp] theorem State.modLine_polls (i : LineId) (f : Line → Line) : (s.modLine i f).polls = s.polls := rfl
@[simp] theorem State.modLine_sqs (i : LineId) (f : Line → Line) : (s.modLine i f).sqs = s.sqs := rfl
@[simp] theorem State.modLine_cqs (i : LineId) (f : Line → Line) : (s.modLine i f).cqs = s.cqs := rfl
@[simp] theorem State.modLine_fetch (i : LineId) (f : Line → Line) : (s.modLine i f).fetch = s.fetch := rfl
@[simp] theorem State.modLine_fetchPosU (i : LineId) (f : Line → Line) : (s.modLine i f).fetchPosU = s.fetchPosU := rfl
@[simp] theorem State.modLine_fetchPosN (i : LineId) (f : Line → Line) : (s.modLine i f).fetchPosN = s.fetchPosN := rfl
@[simp] theorem State.modLine_writer (i : LineId) (f : Line → Line) : (s.modLine i f).writer = s.writer := rfl
@[simp] theorem State.modLine_writerPos (i : LineId) (f : Line → Line) : (s.modLine i f).writerPos = s.writerPos := rfl
@[simp] theorem State.modLine_noticeList (i : LineId) (f : Line → Line) : (s.modLine i f).noticeList = s.noticeList := rfl
@[simp] theorem State.modLine_noticeCq (i : LineId) (f : Line → Line) : (s.modLine i f).noticeCq = s.noticeCq := rfl
@[simp] theorem State.modLine_adminWork (i : LineId) (f : Line → Line) : (s.modLine i f).adminWork = s.adminWork := rfl
@[simp] theorem State.modLine_adminResult (i : LineId) (f : Line → Line) : (s.modLine i f).adminResult = s.adminResult := rfl
@[simp] theorem State.modLine_waiting (i : LineId) (f : Line → Line) : (s.modLine i f).waiting = s.waiting := rfl
@[simp] theorem State.modLine_ready (i : LineId) (f : Line → Line) : (s.modLine i f).ready = s.ready := rfl
@[simp] theorem State.modLine_quRead (i : LineId) (f : Line → Line) : (s.modLine i f).quRead = s.quRead := rfl
@[simp] theorem State.modLine_quWrites (i : LineId) (f : Line → Line) : (s.modLine i f).quWrites = s.quWrites := rfl
@[simp] theorem State.modLine_adRead (i : LineId) (f : Line → Line) : (s.modLine i f).adRead = s.adRead := rfl
@[simp] theorem State.modLine_adWrite (i : LineId) (f : Line → Line) : (s.modLine i f).adWrite = s.adWrite := rfl
@[simp] theorem State.modLine_nuWrite (i : LineId) (f : Line → Line) : (s.modLine i f).nuWrite = s.nuWrite := rfl
@[simp] theorem State.modLine_answer (i : LineId) (f : Line → Line) : (s.modLine i f).answer = s.answer := rfl
@[simp] theorem State.modLine_pending (i : LineId) (f : Line → Line) : (s.modLine i f).pending = s.pending := rfl
@[simp] theorem State.modLine_sched (i : LineId) (f : Line → Line) (k : LineId) : (s.modLine i f).sched k = s.sched k := rfl
@[simp] theorem State.modLine_node (i : LineId) (f : Line → Line) (k : NodeId) : (s.modLine i f).node k = s.node k := rfl
@[simp] theorem State.modLine_slot (i : LineId) (f : Line → Line) (k : SlotId) : (s.modLine i f).slot k = s.slot k := rfl
@[simp] theorem State.modLine_poll (i : LineId) (f : Line → Line) (k : PollId) : (s.modLine i f).poll k = s.poll k := rfl
@[simp] theorem State.modLine_sq (i : LineId) (f : Line → Line) (k : SqId) : (s.modLine i f).sq k = s.sq k := rfl
@[simp] theorem State.modLine_cq (i : LineId) (f : Line → Line) (k : CqId) : (s.modLine i f).cq k = s.cq k := rfl

@[simp] theorem State.setSched_ctl (i : LineId) (x : Sched) : (s.setSched i x).ctl = s.ctl := rfl
@[simp] theorem State.setSched_fatalCause (i : LineId) (x : Sched) : (s.setSched i x).fatalCause = s.fatalCause := rfl
@[simp] theorem State.setSched_configError (i : LineId) (x : Sched) : (s.setSched i x).configError = s.configError := rfl
@[simp] theorem State.setSched_asqBase (i : LineId) (x : Sched) : (s.setSched i x).asqBase = s.asqBase := rfl
@[simp] theorem State.setSched_acqBase (i : LineId) (x : Sched) : (s.setSched i x).acqBase = s.acqBase := rfl
@[simp] theorem State.setSched_adminSqSize (i : LineId) (x : Sched) : (s.setSched i x).adminSqSize = s.adminSqSize := rfl
@[simp] theorem State.setSched_adminCqSize (i : LineId) (x : Sched) : (s.setSched i x).adminCqSize = s.adminCqSize := rfl
@[simp] theorem State.setSched_fatalIrq (i : LineId) (x : Sched) : (s.setSched i x).fatalIrq = s.fatalIrq := rfl
@[simp] theorem State.setSched_thirds (i : LineId) (x : Sched) : (s.setSched i x).thirds = s.thirds := rfl
@[simp] theorem State.setSched_ms (i : LineId) (x : Sched) : (s.setSched i x).ms = s.ms := rfl
@[simp] theorem State.setSched_lines (i : LineId) (x : Sched) : (s.setSched i x).lines = s.lines := rfl
@[simp] theorem State.setSched_nodes (i : LineId) (x : Sched) : (s.setSched i x).nodes = s.nodes := rfl
@[simp] theorem State.setSched_slots (i : LineId) (x : Sched) : (s.setSched i x).slots = s.slots := rfl
@[simp] theorem State.setSched_polls (i : LineId) (x : Sched) : (s.setSched i x).polls = s.polls := rfl
@[simp] theorem State.setSched_sqs (i : LineId) (x : Sched) : (s.setSched i x).sqs = s.sqs := rfl
@[simp] theorem State.setSched_cqs (i : LineId) (x : Sched) : (s.setSched i x).cqs = s.cqs := rfl
@[simp] theorem State.setSched_fetch (i : LineId) (x : Sched) : (s.setSched i x).fetch = s.fetch := rfl
@[simp] theorem State.setSched_fetchPosU (i : LineId) (x : Sched) : (s.setSched i x).fetchPosU = s.fetchPosU := rfl
@[simp] theorem State.setSched_fetchPosN (i : LineId) (x : Sched) : (s.setSched i x).fetchPosN = s.fetchPosN := rfl
@[simp] theorem State.setSched_writer (i : LineId) (x : Sched) : (s.setSched i x).writer = s.writer := rfl
@[simp] theorem State.setSched_writerPos (i : LineId) (x : Sched) : (s.setSched i x).writerPos = s.writerPos := rfl
@[simp] theorem State.setSched_noticeList (i : LineId) (x : Sched) : (s.setSched i x).noticeList = s.noticeList := rfl
@[simp] theorem State.setSched_noticeCq (i : LineId) (x : Sched) : (s.setSched i x).noticeCq = s.noticeCq := rfl
@[simp] theorem State.setSched_adminWork (i : LineId) (x : Sched) : (s.setSched i x).adminWork = s.adminWork := rfl
@[simp] theorem State.setSched_adminResult (i : LineId) (x : Sched) : (s.setSched i x).adminResult = s.adminResult := rfl
@[simp] theorem State.setSched_waiting (i : LineId) (x : Sched) : (s.setSched i x).waiting = s.waiting := rfl
@[simp] theorem State.setSched_ready (i : LineId) (x : Sched) : (s.setSched i x).ready = s.ready := rfl
@[simp] theorem State.setSched_quRead (i : LineId) (x : Sched) : (s.setSched i x).quRead = s.quRead := rfl
@[simp] theorem State.setSched_quWrites (i : LineId) (x : Sched) : (s.setSched i x).quWrites = s.quWrites := rfl
@[simp] theorem State.setSched_adRead (i : LineId) (x : Sched) : (s.setSched i x).adRead = s.adRead := rfl
@[simp] theorem State.setSched_adWrite (i : LineId) (x : Sched) : (s.setSched i x).adWrite = s.adWrite := rfl
@[simp] theorem State.setSched_nuWrite (i : LineId) (x : Sched) : (s.setSched i x).nuWrite = s.nuWrite := rfl
@[simp] theorem State.setSched_answer (i : LineId) (x : Sched) : (s.setSched i x).answer = s.answer := rfl
@[simp] theorem State.setSched_pending (i : LineId) (x : Sched) : (s.setSched i x).pending = s.pending := rfl
@[simp] theorem State.setSched_line (i : LineId) (x : Sched) (k : LineId) : (s.setSched i x).line k = s.line k := rfl
@[simp] theorem State.setSched_node (i : LineId) (x : Sched) (k : NodeId) : (s.setSched i x).node k = s.node k := rfl
@[simp] theorem State.setSched_slot (i : LineId) (x : Sched) (k : SlotId) : (s.setSched i x).slot k = s.slot k := rfl
@[simp] theorem State.setSched_poll (i : LineId) (x : Sched) (k : PollId) : (s.setSched i x).poll k = s.poll k := rfl
@[simp] theorem State.setSched_sq (i : LineId) (x : Sched) (k : SqId) : (s.setSched i x).sq k = s.sq k := rfl
@[simp] theorem State.setSched_cq (i : LineId) (x : Sched) (k : CqId) : (s.setSched i x).cq k = s.cq k := rfl

@[simp] theorem State.modSched_ctl (i : LineId) (f : Sched → Sched) : (s.modSched i f).ctl = s.ctl := rfl
@[simp] theorem State.modSched_fatalCause (i : LineId) (f : Sched → Sched) : (s.modSched i f).fatalCause = s.fatalCause := rfl
@[simp] theorem State.modSched_configError (i : LineId) (f : Sched → Sched) : (s.modSched i f).configError = s.configError := rfl
@[simp] theorem State.modSched_asqBase (i : LineId) (f : Sched → Sched) : (s.modSched i f).asqBase = s.asqBase := rfl
@[simp] theorem State.modSched_acqBase (i : LineId) (f : Sched → Sched) : (s.modSched i f).acqBase = s.acqBase := rfl
@[simp] theorem State.modSched_adminSqSize (i : LineId) (f : Sched → Sched) : (s.modSched i f).adminSqSize = s.adminSqSize := rfl
@[simp] theorem State.modSched_adminCqSize (i : LineId) (f : Sched → Sched) : (s.modSched i f).adminCqSize = s.adminCqSize := rfl
@[simp] theorem State.modSched_fatalIrq (i : LineId) (f : Sched → Sched) : (s.modSched i f).fatalIrq = s.fatalIrq := rfl
@[simp] theorem State.modSched_thirds (i : LineId) (f : Sched → Sched) : (s.modSched i f).thirds = s.thirds := rfl
@[simp] theorem State.modSched_ms (i : LineId) (f : Sched → Sched) : (s.modSched i f).ms = s.ms := rfl
@[simp] theorem State.modSched_lines (i : LineId) (f : Sched → Sched) : (s.modSched i f).lines = s.lines := rfl
@[simp] theorem State.modSched_nodes (i : LineId) (f : Sched → Sched) : (s.modSched i f).nodes = s.nodes := rfl
@[simp] theorem State.modSched_slots (i : LineId) (f : Sched → Sched) : (s.modSched i f).slots = s.slots := rfl
@[simp] theorem State.modSched_polls (i : LineId) (f : Sched → Sched) : (s.modSched i f).polls = s.polls := rfl
@[simp] theorem State.modSched_sqs (i : LineId) (f : Sched → Sched) : (s.modSched i f).sqs = s.sqs := rfl
@[simp] theorem State.modSched_cqs (i : LineId) (f : Sched → Sched) : (s.modSched i f).cqs = s.cqs := rfl
@[simp] theorem State.modSched_fetch (i : LineId) (f : Sched → Sched) : (s.modSched i f).fetch = s.fetch := rfl
@[simp] theorem State.modSched_fetchPosU (i : LineId) (f : Sched → Sched) : (s.modSched i f).fetchPosU = s.fetchPosU := rfl
@[simp] theorem State.modSched_fetchPosN (i : LineId) (f : Sched → Sched) : (s.modSched i f).fetchPosN = s.fetchPosN := rfl
@[simp] theorem State.modSched_writer (i : LineId) (f : Sched → Sched) : (s.modSched i f).writer = s.writer := rfl
@[simp] theorem State.modSched_writerPos (i : LineId) (f : Sched → Sched) : (s.modSched i f).writerPos = s.writerPos := rfl
@[simp] theorem State.modSched_noticeList (i : LineId) (f : Sched → Sched) : (s.modSched i f).noticeList = s.noticeList := rfl
@[simp] theorem State.modSched_noticeCq (i : LineId) (f : Sched → Sched) : (s.modSched i f).noticeCq = s.noticeCq := rfl
@[simp] theorem State.modSched_adminWork (i : LineId) (f : Sched → Sched) : (s.modSched i f).adminWork = s.adminWork := rfl
@[simp] theorem State.modSched_adminResult (i : LineId) (f : Sched → Sched) : (s.modSched i f).adminResult = s.adminResult := rfl
@[simp] theorem State.modSched_waiting (i : LineId) (f : Sched → Sched) : (s.modSched i f).waiting = s.waiting := rfl
@[simp] theorem State.modSched_ready (i : LineId) (f : Sched → Sched) : (s.modSched i f).ready = s.ready := rfl
@[simp] theorem State.modSched_quRead (i : LineId) (f : Sched → Sched) : (s.modSched i f).quRead = s.quRead := rfl
@[simp] theorem State.modSched_quWrites (i : LineId) (f : Sched → Sched) : (s.modSched i f).quWrites = s.quWrites := rfl
@[simp] theorem State.modSched_adRead (i : LineId) (f : Sched → Sched) : (s.modSched i f).adRead = s.adRead := rfl
@[simp] theorem State.modSched_adWrite (i : LineId) (f : Sched → Sched) : (s.modSched i f).adWrite = s.adWrite := rfl
@[simp] theorem State.modSched_nuWrite (i : LineId) (f : Sched → Sched) : (s.modSched i f).nuWrite = s.nuWrite := rfl
@[simp] theorem State.modSched_answer (i : LineId) (f : Sched → Sched) : (s.modSched i f).answer = s.answer := rfl
@[simp] theorem State.modSched_pending (i : LineId) (f : Sched → Sched) : (s.modSched i f).pending = s.pending := rfl
@[simp] theorem State.modSched_line (i : LineId) (f : Sched → Sched) (k : LineId) : (s.modSched i f).line k = s.line k := rfl
@[simp] theorem State.modSched_node (i : LineId) (f : Sched → Sched) (k : NodeId) : (s.modSched i f).node k = s.node k := rfl
@[simp] theorem State.modSched_slot (i : LineId) (f : Sched → Sched) (k : SlotId) : (s.modSched i f).slot k = s.slot k := rfl
@[simp] theorem State.modSched_poll (i : LineId) (f : Sched → Sched) (k : PollId) : (s.modSched i f).poll k = s.poll k := rfl
@[simp] theorem State.modSched_sq (i : LineId) (f : Sched → Sched) (k : SqId) : (s.modSched i f).sq k = s.sq k := rfl
@[simp] theorem State.modSched_cq (i : LineId) (f : Sched → Sched) (k : CqId) : (s.modSched i f).cq k = s.cq k := rfl

@[simp] theorem State.setNode_ctl (i : NodeId) (x : Option Node) : (s.setNode i x).ctl = s.ctl := rfl
@[simp] theorem State.setNode_fatalCause (i : NodeId) (x : Option Node) : (s.setNode i x).fatalCause = s.fatalCause := rfl
@[simp] theorem State.setNode_configError (i : NodeId) (x : Option Node) : (s.setNode i x).configError = s.configError := rfl
@[simp] theorem State.setNode_asqBase (i : NodeId) (x : Option Node) : (s.setNode i x).asqBase = s.asqBase := rfl
@[simp] theorem State.setNode_acqBase (i : NodeId) (x : Option Node) : (s.setNode i x).acqBase = s.acqBase := rfl
@[simp] theorem State.setNode_adminSqSize (i : NodeId) (x : Option Node) : (s.setNode i x).adminSqSize = s.adminSqSize := rfl
@[simp] theorem State.setNode_adminCqSize (i : NodeId) (x : Option Node) : (s.setNode i x).adminCqSize = s.adminCqSize := rfl
@[simp] theorem State.setNode_fatalIrq (i : NodeId) (x : Option Node) : (s.setNode i x).fatalIrq = s.fatalIrq := rfl
@[simp] theorem State.setNode_thirds (i : NodeId) (x : Option Node) : (s.setNode i x).thirds = s.thirds := rfl
@[simp] theorem State.setNode_ms (i : NodeId) (x : Option Node) : (s.setNode i x).ms = s.ms := rfl
@[simp] theorem State.setNode_lines (i : NodeId) (x : Option Node) : (s.setNode i x).lines = s.lines := rfl
@[simp] theorem State.setNode_scheds (i : NodeId) (x : Option Node) : (s.setNode i x).scheds = s.scheds := rfl
@[simp] theorem State.setNode_slots (i : NodeId) (x : Option Node) : (s.setNode i x).slots = s.slots := rfl
@[simp] theorem State.setNode_polls (i : NodeId) (x : Option Node) : (s.setNode i x).polls = s.polls := rfl
@[simp] theorem State.setNode_sqs (i : NodeId) (x : Option Node) : (s.setNode i x).sqs = s.sqs := rfl
@[simp] theorem State.setNode_cqs (i : NodeId) (x : Option Node) : (s.setNode i x).cqs = s.cqs := rfl
@[simp] theorem State.setNode_fetch (i : NodeId) (x : Option Node) : (s.setNode i x).fetch = s.fetch := rfl
@[simp] theorem State.setNode_fetchPosU (i : NodeId) (x : Option Node) : (s.setNode i x).fetchPosU = s.fetchPosU := rfl
@[simp] theorem State.setNode_fetchPosN (i : NodeId) (x : Option Node) : (s.setNode i x).fetchPosN = s.fetchPosN := rfl
@[simp] theorem State.setNode_writer (i : NodeId) (x : Option Node) : (s.setNode i x).writer = s.writer := rfl
@[simp] theorem State.setNode_writerPos (i : NodeId) (x : Option Node) : (s.setNode i x).writerPos = s.writerPos := rfl
@[simp] theorem State.setNode_noticeList (i : NodeId) (x : Option Node) : (s.setNode i x).noticeList = s.noticeList := rfl
@[simp] theorem State.setNode_noticeCq (i : NodeId) (x : Option Node) : (s.setNode i x).noticeCq = s.noticeCq := rfl
@[simp] theorem State.setNode_adminWork (i : NodeId) (x : Option Node) : (s.setNode i x).adminWork = s.adminWork := rfl
@[simp] theorem State.setNode_adminResult (i : NodeId) (x : Option Node) : (s.setNode i x).adminResult = s.adminResult := rfl
@[simp] theorem State.setNode_waiting (i : NodeId) (x : Option Node) : (s.setNode i x).waiting = s.waiting := rfl
@[simp] theorem State.setNode_ready (i : NodeId) (x : Option Node) : (s.setNode i x).ready = s.ready := rfl
@[simp] theorem State.setNode_quRead (i : NodeId) (x : Option Node) : (s.setNode i x).quRead = s.quRead := rfl
@[simp] theorem State.setNode_quWrites (i : NodeId) (x : Option Node) : (s.setNode i x).quWrites = s.quWrites := rfl
@[simp] theorem State.setNode_adRead (i : NodeId) (x : Option Node) : (s.setNode i x).adRead = s.adRead := rfl
@[simp] theorem State.setNode_adWrite (i : NodeId) (x : Option Node) : (s.setNode i x).adWrite = s.adWrite := rfl
@[simp] theorem State.setNode_nuWrite (i : NodeId) (x : Option Node) : (s.setNode i x).nuWrite = s.nuWrite := rfl
@[simp] theorem State.setNode_answer (i : NodeId) (x : Option Node) : (s.setNode i x).answer = s.answer := rfl
@[simp] theorem State.setNode_pending (i : NodeId) (x : Option Node) : (s.setNode i x).pending = s.pending := rfl
@[simp] theorem State.setNode_line (i : NodeId) (x : Option Node) (k : LineId) : (s.setNode i x).line k = s.line k := rfl
@[simp] theorem State.setNode_sched (i : NodeId) (x : Option Node) (k : LineId) : (s.setNode i x).sched k = s.sched k := rfl
@[simp] theorem State.setNode_slot (i : NodeId) (x : Option Node) (k : SlotId) : (s.setNode i x).slot k = s.slot k := rfl
@[simp] theorem State.setNode_poll (i : NodeId) (x : Option Node) (k : PollId) : (s.setNode i x).poll k = s.poll k := rfl
@[simp] theorem State.setNode_sq (i : NodeId) (x : Option Node) (k : SqId) : (s.setNode i x).sq k = s.sq k := rfl
@[simp] theorem State.setNode_cq (i : NodeId) (x : Option Node) (k : CqId) : (s.setNode i x).cq k = s.cq k := rfl

@[simp] theorem State.modNode_ctl (i : NodeId) (f : Node → Node) : (s.modNode i f).ctl = s.ctl := rfl
@[simp] theorem State.modNode_fatalCause (i : NodeId) (f : Node → Node) : (s.modNode i f).fatalCause = s.fatalCause := rfl
@[simp] theorem State.modNode_configError (i : NodeId) (f : Node → Node) : (s.modNode i f).configError = s.configError := rfl
@[simp] theorem State.modNode_asqBase (i : NodeId) (f : Node → Node) : (s.modNode i f).asqBase = s.asqBase := rfl
@[simp] theorem State.modNode_acqBase (i : NodeId) (f : Node → Node) : (s.modNode i f).acqBase = s.acqBase := rfl
@[simp] theorem State.modNode_adminSqSize (i : NodeId) (f : Node → Node) : (s.modNode i f).adminSqSize = s.adminSqSize := rfl
@[simp] theorem State.modNode_adminCqSize (i : NodeId) (f : Node → Node) : (s.modNode i f).adminCqSize = s.adminCqSize := rfl
@[simp] theorem State.modNode_fatalIrq (i : NodeId) (f : Node → Node) : (s.modNode i f).fatalIrq = s.fatalIrq := rfl
@[simp] theorem State.modNode_thirds (i : NodeId) (f : Node → Node) : (s.modNode i f).thirds = s.thirds := rfl
@[simp] theorem State.modNode_ms (i : NodeId) (f : Node → Node) : (s.modNode i f).ms = s.ms := rfl
@[simp] theorem State.modNode_lines (i : NodeId) (f : Node → Node) : (s.modNode i f).lines = s.lines := rfl
@[simp] theorem State.modNode_scheds (i : NodeId) (f : Node → Node) : (s.modNode i f).scheds = s.scheds := rfl
@[simp] theorem State.modNode_slots (i : NodeId) (f : Node → Node) : (s.modNode i f).slots = s.slots := rfl
@[simp] theorem State.modNode_polls (i : NodeId) (f : Node → Node) : (s.modNode i f).polls = s.polls := rfl
@[simp] theorem State.modNode_sqs (i : NodeId) (f : Node → Node) : (s.modNode i f).sqs = s.sqs := rfl
@[simp] theorem State.modNode_cqs (i : NodeId) (f : Node → Node) : (s.modNode i f).cqs = s.cqs := rfl
@[simp] theorem State.modNode_fetch (i : NodeId) (f : Node → Node) : (s.modNode i f).fetch = s.fetch := rfl
@[simp] theorem State.modNode_fetchPosU (i : NodeId) (f : Node → Node) : (s.modNode i f).fetchPosU = s.fetchPosU := rfl
@[simp] theorem State.modNode_fetchPosN (i : NodeId) (f : Node → Node) : (s.modNode i f).fetchPosN = s.fetchPosN := rfl
@[simp] theorem State.modNode_writer (i : NodeId) (f : Node → Node) : (s.modNode i f).writer = s.writer := rfl
@[simp] theorem State.modNode_writerPos (i : NodeId) (f : Node → Node) : (s.modNode i f).writerPos = s.writerPos := rfl
@[simp] theorem State.modNode_noticeList (i : NodeId) (f : Node → Node) : (s.modNode i f).noticeList = s.noticeList := rfl
@[simp] theorem State.modNode_noticeCq (i : NodeId) (f : Node → Node) : (s.modNode i f).noticeCq = s.noticeCq := rfl
@[simp] theorem State.modNode_adminWork (i : NodeId) (f : Node → Node) : (s.modNode i f).adminWork = s.adminWork := rfl
@[simp] theorem State.modNode_adminResult (i : NodeId) (f : Node → Node) : (s.modNode i f).adminResult = s.adminResult := rfl
@[simp] theorem State.modNode_waiting (i : NodeId) (f : Node → Node) : (s.modNode i f).waiting = s.waiting := rfl
@[simp] theorem State.modNode_ready (i : NodeId) (f : Node → Node) : (s.modNode i f).ready = s.ready := rfl
@[simp] theorem State.modNode_quRead (i : NodeId) (f : Node → Node) : (s.modNode i f).quRead = s.quRead := rfl
@[simp] theorem State.modNode_quWrites (i : NodeId) (f : Node → Node) : (s.modNode i f).quWrites = s.quWrites := rfl
@[simp] theorem State.modNode_adRead (i : NodeId) (f : Node → Node) : (s.modNode i f).adRead = s.adRead := rfl
@[simp] theorem State.modNode_adWrite (i : NodeId) (f : Node → Node) : (s.modNode i f).adWrite = s.adWrite := rfl
@[simp] theorem State.modNode_nuWrite (i : NodeId) (f : Node → Node) : (s.modNode i f).nuWrite = s.nuWrite := rfl
@[simp] theorem State.modNode_answer (i : NodeId) (f : Node → Node) : (s.modNode i f).answer = s.answer := rfl
@[simp] theorem State.modNode_pending (i : NodeId) (f : Node → Node) : (s.modNode i f).pending = s.pending := rfl
@[simp] theorem State.modNode_line (i : NodeId) (f : Node → Node) (k : LineId) : (s.modNode i f).line k = s.line k := rfl
@[simp] theorem State.modNode_sched (i : NodeId) (f : Node → Node) (k : LineId) : (s.modNode i f).sched k = s.sched k := rfl
@[simp] theorem State.modNode_slot (i : NodeId) (f : Node → Node) (k : SlotId) : (s.modNode i f).slot k = s.slot k := rfl
@[simp] theorem State.modNode_poll (i : NodeId) (f : Node → Node) (k : PollId) : (s.modNode i f).poll k = s.poll k := rfl
@[simp] theorem State.modNode_sq (i : NodeId) (f : Node → Node) (k : SqId) : (s.modNode i f).sq k = s.sq k := rfl
@[simp] theorem State.modNode_cq (i : NodeId) (f : Node → Node) (k : CqId) : (s.modNode i f).cq k = s.cq k := rfl

@[simp] theorem State.setSlot_ctl (i : SlotId) (x : Option Slot) : (s.setSlot i x).ctl = s.ctl := rfl
@[simp] theorem State.setSlot_fatalCause (i : SlotId) (x : Option Slot) : (s.setSlot i x).fatalCause = s.fatalCause := rfl
@[simp] theorem State.setSlot_configError (i : SlotId) (x : Option Slot) : (s.setSlot i x).configError = s.configError := rfl
@[simp] theorem State.setSlot_asqBase (i : SlotId) (x : Option Slot) : (s.setSlot i x).asqBase = s.asqBase := rfl
@[simp] theorem State.setSlot_acqBase (i : SlotId) (x : Option Slot) : (s.setSlot i x).acqBase = s.acqBase := rfl
@[simp] theorem State.setSlot_adminSqSize (i : SlotId) (x : Option Slot) : (s.setSlot i x).adminSqSize = s.adminSqSize := rfl
@[simp] theorem State.setSlot_adminCqSize (i : SlotId) (x : Option Slot) : (s.setSlot i x).adminCqSize = s.adminCqSize := rfl
@[simp] theorem State.setSlot_fatalIrq (i : SlotId) (x : Option Slot) : (s.setSlot i x).fatalIrq = s.fatalIrq := rfl
@[simp] theorem State.setSlot_thirds (i : SlotId) (x : Option Slot) : (s.setSlot i x).thirds = s.thirds := rfl
@[simp] theorem State.setSlot_ms (i : SlotId) (x : Option Slot) : (s.setSlot i x).ms = s.ms := rfl
@[simp] theorem State.setSlot_lines (i : SlotId) (x : Option Slot) : (s.setSlot i x).lines = s.lines := rfl
@[simp] theorem State.setSlot_scheds (i : SlotId) (x : Option Slot) : (s.setSlot i x).scheds = s.scheds := rfl
@[simp] theorem State.setSlot_nodes (i : SlotId) (x : Option Slot) : (s.setSlot i x).nodes = s.nodes := rfl
@[simp] theorem State.setSlot_polls (i : SlotId) (x : Option Slot) : (s.setSlot i x).polls = s.polls := rfl
@[simp] theorem State.setSlot_sqs (i : SlotId) (x : Option Slot) : (s.setSlot i x).sqs = s.sqs := rfl
@[simp] theorem State.setSlot_cqs (i : SlotId) (x : Option Slot) : (s.setSlot i x).cqs = s.cqs := rfl
@[simp] theorem State.setSlot_fetch (i : SlotId) (x : Option Slot) : (s.setSlot i x).fetch = s.fetch := rfl
@[simp] theorem State.setSlot_fetchPosU (i : SlotId) (x : Option Slot) : (s.setSlot i x).fetchPosU = s.fetchPosU := rfl
@[simp] theorem State.setSlot_fetchPosN (i : SlotId) (x : Option Slot) : (s.setSlot i x).fetchPosN = s.fetchPosN := rfl
@[simp] theorem State.setSlot_writer (i : SlotId) (x : Option Slot) : (s.setSlot i x).writer = s.writer := rfl
@[simp] theorem State.setSlot_writerPos (i : SlotId) (x : Option Slot) : (s.setSlot i x).writerPos = s.writerPos := rfl
@[simp] theorem State.setSlot_noticeList (i : SlotId) (x : Option Slot) : (s.setSlot i x).noticeList = s.noticeList := rfl
@[simp] theorem State.setSlot_noticeCq (i : SlotId) (x : Option Slot) : (s.setSlot i x).noticeCq = s.noticeCq := rfl
@[simp] theorem State.setSlot_adminWork (i : SlotId) (x : Option Slot) : (s.setSlot i x).adminWork = s.adminWork := rfl
@[simp] theorem State.setSlot_adminResult (i : SlotId) (x : Option Slot) : (s.setSlot i x).adminResult = s.adminResult := rfl
@[simp] theorem State.setSlot_waiting (i : SlotId) (x : Option Slot) : (s.setSlot i x).waiting = s.waiting := rfl
@[simp] theorem State.setSlot_ready (i : SlotId) (x : Option Slot) : (s.setSlot i x).ready = s.ready := rfl
@[simp] theorem State.setSlot_quRead (i : SlotId) (x : Option Slot) : (s.setSlot i x).quRead = s.quRead := rfl
@[simp] theorem State.setSlot_quWrites (i : SlotId) (x : Option Slot) : (s.setSlot i x).quWrites = s.quWrites := rfl
@[simp] theorem State.setSlot_adRead (i : SlotId) (x : Option Slot) : (s.setSlot i x).adRead = s.adRead := rfl
@[simp] theorem State.setSlot_adWrite (i : SlotId) (x : Option Slot) : (s.setSlot i x).adWrite = s.adWrite := rfl
@[simp] theorem State.setSlot_nuWrite (i : SlotId) (x : Option Slot) : (s.setSlot i x).nuWrite = s.nuWrite := rfl
@[simp] theorem State.setSlot_answer (i : SlotId) (x : Option Slot) : (s.setSlot i x).answer = s.answer := rfl
@[simp] theorem State.setSlot_pending (i : SlotId) (x : Option Slot) : (s.setSlot i x).pending = s.pending := rfl
@[simp] theorem State.setSlot_line (i : SlotId) (x : Option Slot) (k : LineId) : (s.setSlot i x).line k = s.line k := rfl
@[simp] theorem State.setSlot_sched (i : SlotId) (x : Option Slot) (k : LineId) : (s.setSlot i x).sched k = s.sched k := rfl
@[simp] theorem State.setSlot_node (i : SlotId) (x : Option Slot) (k : NodeId) : (s.setSlot i x).node k = s.node k := rfl
@[simp] theorem State.setSlot_poll (i : SlotId) (x : Option Slot) (k : PollId) : (s.setSlot i x).poll k = s.poll k := rfl
@[simp] theorem State.setSlot_sq (i : SlotId) (x : Option Slot) (k : SqId) : (s.setSlot i x).sq k = s.sq k := rfl
@[simp] theorem State.setSlot_cq (i : SlotId) (x : Option Slot) (k : CqId) : (s.setSlot i x).cq k = s.cq k := rfl

@[simp] theorem State.modSlot_ctl (i : SlotId) (f : Slot → Slot) : (s.modSlot i f).ctl = s.ctl := rfl
@[simp] theorem State.modSlot_fatalCause (i : SlotId) (f : Slot → Slot) : (s.modSlot i f).fatalCause = s.fatalCause := rfl
@[simp] theorem State.modSlot_configError (i : SlotId) (f : Slot → Slot) : (s.modSlot i f).configError = s.configError := rfl
@[simp] theorem State.modSlot_asqBase (i : SlotId) (f : Slot → Slot) : (s.modSlot i f).asqBase = s.asqBase := rfl
@[simp] theorem State.modSlot_acqBase (i : SlotId) (f : Slot → Slot) : (s.modSlot i f).acqBase = s.acqBase := rfl
@[simp] theorem State.modSlot_adminSqSize (i : SlotId) (f : Slot → Slot) : (s.modSlot i f).adminSqSize = s.adminSqSize := rfl
@[simp] theorem State.modSlot_adminCqSize (i : SlotId) (f : Slot → Slot) : (s.modSlot i f).adminCqSize = s.adminCqSize := rfl
@[simp] theorem State.modSlot_fatalIrq (i : SlotId) (f : Slot → Slot) : (s.modSlot i f).fatalIrq = s.fatalIrq := rfl
@[simp] theorem State.modSlot_thirds (i : SlotId) (f : Slot → Slot) : (s.modSlot i f).thirds = s.thirds := rfl
@[simp] theorem State.modSlot_ms (i : SlotId) (f : Slot → Slot) : (s.modSlot i f).ms = s.ms := rfl
@[simp] theorem State.modSlot_lines (i : SlotId) (f : Slot → Slot) : (s.modSlot i f).lines = s.lines := rfl
@[simp] theorem State.modSlot_scheds (i : SlotId) (f : Slot → Slot) : (s.modSlot i f).scheds = s.scheds := rfl
@[simp] theorem State.modSlot_nodes (i : SlotId) (f : Slot → Slot) : (s.modSlot i f).nodes = s.nodes := rfl
@[simp] theorem State.modSlot_polls (i : SlotId) (f : Slot → Slot) : (s.modSlot i f).polls = s.polls := rfl
@[simp] theorem State.modSlot_sqs (i : SlotId) (f : Slot → Slot) : (s.modSlot i f).sqs = s.sqs := rfl
@[simp] theorem State.modSlot_cqs (i : SlotId) (f : Slot → Slot) : (s.modSlot i f).cqs = s.cqs := rfl
@[simp] theorem State.modSlot_fetch (i : SlotId) (f : Slot → Slot) : (s.modSlot i f).fetch = s.fetch := rfl
@[simp] theorem State.modSlot_fetchPosU (i : SlotId) (f : Slot → Slot) : (s.modSlot i f).fetchPosU = s.fetchPosU := rfl
@[simp] theorem State.modSlot_fetchPosN (i : SlotId) (f : Slot → Slot) : (s.modSlot i f).fetchPosN = s.fetchPosN := rfl
@[simp] theorem State.modSlot_writer (i : SlotId) (f : Slot → Slot) : (s.modSlot i f).writer = s.writer := rfl
@[simp] theorem State.modSlot_writerPos (i : SlotId) (f : Slot → Slot) : (s.modSlot i f).writerPos = s.writerPos := rfl
@[simp] theorem State.modSlot_noticeList (i : SlotId) (f : Slot → Slot) : (s.modSlot i f).noticeList = s.noticeList := rfl
@[simp] theorem State.modSlot_noticeCq (i : SlotId) (f : Slot → Slot) : (s.modSlot i f).noticeCq = s.noticeCq := rfl
@[simp] theorem State.modSlot_adminWork (i : SlotId) (f : Slot → Slot) : (s.modSlot i f).adminWork = s.adminWork := rfl
@[simp] theorem State.modSlot_adminResult (i : SlotId) (f : Slot → Slot) : (s.modSlot i f).adminResult = s.adminResult := rfl
@[simp] theorem State.modSlot_waiting (i : SlotId) (f : Slot → Slot) : (s.modSlot i f).waiting = s.waiting := rfl
@[simp] theorem State.modSlot_ready (i : SlotId) (f : Slot → Slot) : (s.modSlot i f).ready = s.ready := rfl
@[simp] theorem State.modSlot_quRead (i : SlotId) (f : Slot → Slot) : (s.modSlot i f).quRead = s.quRead := rfl
@[simp] theorem State.modSlot_quWrites (i : SlotId) (f : Slot → Slot) : (s.modSlot i f).quWrites = s.quWrites := rfl
@[simp] theorem State.modSlot_adRead (i : SlotId) (f : Slot → Slot) : (s.modSlot i f).adRead = s.adRead := rfl
@[simp] theorem State.modSlot_adWrite (i : SlotId) (f : Slot → Slot) : (s.modSlot i f).adWrite = s.adWrite := rfl
@[simp] theorem State.modSlot_nuWrite (i : SlotId) (f : Slot → Slot) : (s.modSlot i f).nuWrite = s.nuWrite := rfl
@[simp] theorem State.modSlot_answer (i : SlotId) (f : Slot → Slot) : (s.modSlot i f).answer = s.answer := rfl
@[simp] theorem State.modSlot_pending (i : SlotId) (f : Slot → Slot) : (s.modSlot i f).pending = s.pending := rfl
@[simp] theorem State.modSlot_line (i : SlotId) (f : Slot → Slot) (k : LineId) : (s.modSlot i f).line k = s.line k := rfl
@[simp] theorem State.modSlot_sched (i : SlotId) (f : Slot → Slot) (k : LineId) : (s.modSlot i f).sched k = s.sched k := rfl
@[simp] theorem State.modSlot_node (i : SlotId) (f : Slot → Slot) (k : NodeId) : (s.modSlot i f).node k = s.node k := rfl
@[simp] theorem State.modSlot_poll (i : SlotId) (f : Slot → Slot) (k : PollId) : (s.modSlot i f).poll k = s.poll k := rfl
@[simp] theorem State.modSlot_sq (i : SlotId) (f : Slot → Slot) (k : SqId) : (s.modSlot i f).sq k = s.sq k := rfl
@[simp] theorem State.modSlot_cq (i : SlotId) (f : Slot → Slot) (k : CqId) : (s.modSlot i f).cq k = s.cq k := rfl

@[simp] theorem State.setPoll_ctl (i : PollId) (x : Option Poll) : (s.setPoll i x).ctl = s.ctl := rfl
@[simp] theorem State.setPoll_fatalCause (i : PollId) (x : Option Poll) : (s.setPoll i x).fatalCause = s.fatalCause := rfl
@[simp] theorem State.setPoll_configError (i : PollId) (x : Option Poll) : (s.setPoll i x).configError = s.configError := rfl
@[simp] theorem State.setPoll_asqBase (i : PollId) (x : Option Poll) : (s.setPoll i x).asqBase = s.asqBase := rfl
@[simp] theorem State.setPoll_acqBase (i : PollId) (x : Option Poll) : (s.setPoll i x).acqBase = s.acqBase := rfl
@[simp] theorem State.setPoll_adminSqSize (i : PollId) (x : Option Poll) : (s.setPoll i x).adminSqSize = s.adminSqSize := rfl
@[simp] theorem State.setPoll_adminCqSize (i : PollId) (x : Option Poll) : (s.setPoll i x).adminCqSize = s.adminCqSize := rfl
@[simp] theorem State.setPoll_fatalIrq (i : PollId) (x : Option Poll) : (s.setPoll i x).fatalIrq = s.fatalIrq := rfl
@[simp] theorem State.setPoll_thirds (i : PollId) (x : Option Poll) : (s.setPoll i x).thirds = s.thirds := rfl
@[simp] theorem State.setPoll_ms (i : PollId) (x : Option Poll) : (s.setPoll i x).ms = s.ms := rfl
@[simp] theorem State.setPoll_lines (i : PollId) (x : Option Poll) : (s.setPoll i x).lines = s.lines := rfl
@[simp] theorem State.setPoll_scheds (i : PollId) (x : Option Poll) : (s.setPoll i x).scheds = s.scheds := rfl
@[simp] theorem State.setPoll_nodes (i : PollId) (x : Option Poll) : (s.setPoll i x).nodes = s.nodes := rfl
@[simp] theorem State.setPoll_slots (i : PollId) (x : Option Poll) : (s.setPoll i x).slots = s.slots := rfl
@[simp] theorem State.setPoll_sqs (i : PollId) (x : Option Poll) : (s.setPoll i x).sqs = s.sqs := rfl
@[simp] theorem State.setPoll_cqs (i : PollId) (x : Option Poll) : (s.setPoll i x).cqs = s.cqs := rfl
@[simp] theorem State.setPoll_fetch (i : PollId) (x : Option Poll) : (s.setPoll i x).fetch = s.fetch := rfl
@[simp] theorem State.setPoll_fetchPosU (i : PollId) (x : Option Poll) : (s.setPoll i x).fetchPosU = s.fetchPosU := rfl
@[simp] theorem State.setPoll_fetchPosN (i : PollId) (x : Option Poll) : (s.setPoll i x).fetchPosN = s.fetchPosN := rfl
@[simp] theorem State.setPoll_writer (i : PollId) (x : Option Poll) : (s.setPoll i x).writer = s.writer := rfl
@[simp] theorem State.setPoll_writerPos (i : PollId) (x : Option Poll) : (s.setPoll i x).writerPos = s.writerPos := rfl
@[simp] theorem State.setPoll_noticeList (i : PollId) (x : Option Poll) : (s.setPoll i x).noticeList = s.noticeList := rfl
@[simp] theorem State.setPoll_noticeCq (i : PollId) (x : Option Poll) : (s.setPoll i x).noticeCq = s.noticeCq := rfl
@[simp] theorem State.setPoll_adminWork (i : PollId) (x : Option Poll) : (s.setPoll i x).adminWork = s.adminWork := rfl
@[simp] theorem State.setPoll_adminResult (i : PollId) (x : Option Poll) : (s.setPoll i x).adminResult = s.adminResult := rfl
@[simp] theorem State.setPoll_waiting (i : PollId) (x : Option Poll) : (s.setPoll i x).waiting = s.waiting := rfl
@[simp] theorem State.setPoll_ready (i : PollId) (x : Option Poll) : (s.setPoll i x).ready = s.ready := rfl
@[simp] theorem State.setPoll_quRead (i : PollId) (x : Option Poll) : (s.setPoll i x).quRead = s.quRead := rfl
@[simp] theorem State.setPoll_quWrites (i : PollId) (x : Option Poll) : (s.setPoll i x).quWrites = s.quWrites := rfl
@[simp] theorem State.setPoll_adRead (i : PollId) (x : Option Poll) : (s.setPoll i x).adRead = s.adRead := rfl
@[simp] theorem State.setPoll_adWrite (i : PollId) (x : Option Poll) : (s.setPoll i x).adWrite = s.adWrite := rfl
@[simp] theorem State.setPoll_nuWrite (i : PollId) (x : Option Poll) : (s.setPoll i x).nuWrite = s.nuWrite := rfl
@[simp] theorem State.setPoll_answer (i : PollId) (x : Option Poll) : (s.setPoll i x).answer = s.answer := rfl
@[simp] theorem State.setPoll_pending (i : PollId) (x : Option Poll) : (s.setPoll i x).pending = s.pending := rfl
@[simp] theorem State.setPoll_line (i : PollId) (x : Option Poll) (k : LineId) : (s.setPoll i x).line k = s.line k := rfl
@[simp] theorem State.setPoll_sched (i : PollId) (x : Option Poll) (k : LineId) : (s.setPoll i x).sched k = s.sched k := rfl
@[simp] theorem State.setPoll_node (i : PollId) (x : Option Poll) (k : NodeId) : (s.setPoll i x).node k = s.node k := rfl
@[simp] theorem State.setPoll_slot (i : PollId) (x : Option Poll) (k : SlotId) : (s.setPoll i x).slot k = s.slot k := rfl
@[simp] theorem State.setPoll_sq (i : PollId) (x : Option Poll) (k : SqId) : (s.setPoll i x).sq k = s.sq k := rfl
@[simp] theorem State.setPoll_cq (i : PollId) (x : Option Poll) (k : CqId) : (s.setPoll i x).cq k = s.cq k := rfl

@[simp] theorem State.modPoll_ctl (i : PollId) (f : Poll → Poll) : (s.modPoll i f).ctl = s.ctl := rfl
@[simp] theorem State.modPoll_fatalCause (i : PollId) (f : Poll → Poll) : (s.modPoll i f).fatalCause = s.fatalCause := rfl
@[simp] theorem State.modPoll_configError (i : PollId) (f : Poll → Poll) : (s.modPoll i f).configError = s.configError := rfl
@[simp] theorem State.modPoll_asqBase (i : PollId) (f : Poll → Poll) : (s.modPoll i f).asqBase = s.asqBase := rfl
@[simp] theorem State.modPoll_acqBase (i : PollId) (f : Poll → Poll) : (s.modPoll i f).acqBase = s.acqBase := rfl
@[simp] theorem State.modPoll_adminSqSize (i : PollId) (f : Poll → Poll) : (s.modPoll i f).adminSqSize = s.adminSqSize := rfl
@[simp] theorem State.modPoll_adminCqSize (i : PollId) (f : Poll → Poll) : (s.modPoll i f).adminCqSize = s.adminCqSize := rfl
@[simp] theorem State.modPoll_fatalIrq (i : PollId) (f : Poll → Poll) : (s.modPoll i f).fatalIrq = s.fatalIrq := rfl
@[simp] theorem State.modPoll_thirds (i : PollId) (f : Poll → Poll) : (s.modPoll i f).thirds = s.thirds := rfl
@[simp] theorem State.modPoll_ms (i : PollId) (f : Poll → Poll) : (s.modPoll i f).ms = s.ms := rfl
@[simp] theorem State.modPoll_lines (i : PollId) (f : Poll → Poll) : (s.modPoll i f).lines = s.lines := rfl
@[simp] theorem State.modPoll_scheds (i : PollId) (f : Poll → Poll) : (s.modPoll i f).scheds = s.scheds := rfl
@[simp] theorem State.modPoll_nodes (i : PollId) (f : Poll → Poll) : (s.modPoll i f).nodes = s.nodes := rfl
@[simp] theorem State.modPoll_slots (i : PollId) (f : Poll → Poll) : (s.modPoll i f).slots = s.slots := rfl
@[simp] theorem State.modPoll_sqs (i : PollId) (f : Poll → Poll) : (s.modPoll i f).sqs = s.sqs := rfl
@[simp] theorem State.modPoll_cqs (i : PollId) (f : Poll → Poll) : (s.modPoll i f).cqs = s.cqs := rfl
@[simp] theorem State.modPoll_fetch (i : PollId) (f : Poll → Poll) : (s.modPoll i f).fetch = s.fetch := rfl
@[simp] theorem State.modPoll_fetchPosU (i : PollId) (f : Poll → Poll) : (s.modPoll i f).fetchPosU = s.fetchPosU := rfl
@[simp] theorem State.modPoll_fetchPosN (i : PollId) (f : Poll → Poll) : (s.modPoll i f).fetchPosN = s.fetchPosN := rfl
@[simp] theorem State.modPoll_writer (i : PollId) (f : Poll → Poll) : (s.modPoll i f).writer = s.writer := rfl
@[simp] theorem State.modPoll_writerPos (i : PollId) (f : Poll → Poll) : (s.modPoll i f).writerPos = s.writerPos := rfl
@[simp] theorem State.modPoll_noticeList (i : PollId) (f : Poll → Poll) : (s.modPoll i f).noticeList = s.noticeList := rfl
@[simp] theorem State.modPoll_noticeCq (i : PollId) (f : Poll → Poll) : (s.modPoll i f).noticeCq = s.noticeCq := rfl
@[simp] theorem State.modPoll_adminWork (i : PollId) (f : Poll → Poll) : (s.modPoll i f).adminWork = s.adminWork := rfl
@[simp] theorem State.modPoll_adminResult (i : PollId) (f : Poll → Poll) : (s.modPoll i f).adminResult = s.adminResult := rfl
@[simp] theorem State.modPoll_waiting (i : PollId) (f : Poll → Poll) : (s.modPoll i f).waiting = s.waiting := rfl
@[simp] theorem State.modPoll_ready (i : PollId) (f : Poll → Poll) : (s.modPoll i f).ready = s.ready := rfl
@[simp] theorem State.modPoll_quRead (i : PollId) (f : Poll → Poll) : (s.modPoll i f).quRead = s.quRead := rfl
@[simp] theorem State.modPoll_quWrites (i : PollId) (f : Poll → Poll) : (s.modPoll i f).quWrites = s.quWrites := rfl
@[simp] theorem State.modPoll_adRead (i : PollId) (f : Poll → Poll) : (s.modPoll i f).adRead = s.adRead := rfl
@[simp] theorem State.modPoll_adWrite (i : PollId) (f : Poll → Poll) : (s.modPoll i f).adWrite = s.adWrite := rfl
@[simp] theorem State.modPoll_nuWrite (i : PollId) (f : Poll → Poll) : (s.modPoll i f).nuWrite = s.nuWrite := rfl
@[simp] theorem State.modPoll_answer (i : PollId) (f : Poll → Poll) : (s.modPoll i f).answer = s.answer := rfl
@[simp] theorem State.modPoll_pending (i : PollId) (f : Poll → Poll) : (s.modPoll i f).pending = s.pending := rfl
@[simp] theorem State.modPoll_line (i : PollId) (f : Poll → Poll) (k : LineId) : (s.modPoll i f).line k = s.line k := rfl
@[simp] theorem State.modPoll_sched (i : PollId) (f : Poll → Poll) (k : LineId) : (s.modPoll i f).sched k = s.sched k := rfl
@[simp] theorem State.modPoll_node (i : PollId) (f : Poll → Poll) (k : NodeId) : (s.modPoll i f).node k = s.node k := rfl
@[simp] theorem State.modPoll_slot (i : PollId) (f : Poll → Poll) (k : SlotId) : (s.modPoll i f).slot k = s.slot k := rfl
@[simp] theorem State.modPoll_sq (i : PollId) (f : Poll → Poll) (k : SqId) : (s.modPoll i f).sq k = s.sq k := rfl
@[simp] theorem State.modPoll_cq (i : PollId) (f : Poll → Poll) (k : CqId) : (s.modPoll i f).cq k = s.cq k := rfl

@[simp] theorem State.setSq_ctl (i : SqId) (x : Sq) : (s.setSq i x).ctl = s.ctl := rfl
@[simp] theorem State.setSq_fatalCause (i : SqId) (x : Sq) : (s.setSq i x).fatalCause = s.fatalCause := rfl
@[simp] theorem State.setSq_configError (i : SqId) (x : Sq) : (s.setSq i x).configError = s.configError := rfl
@[simp] theorem State.setSq_asqBase (i : SqId) (x : Sq) : (s.setSq i x).asqBase = s.asqBase := rfl
@[simp] theorem State.setSq_acqBase (i : SqId) (x : Sq) : (s.setSq i x).acqBase = s.acqBase := rfl
@[simp] theorem State.setSq_adminSqSize (i : SqId) (x : Sq) : (s.setSq i x).adminSqSize = s.adminSqSize := rfl
@[simp] theorem State.setSq_adminCqSize (i : SqId) (x : Sq) : (s.setSq i x).adminCqSize = s.adminCqSize := rfl
@[simp] theorem State.setSq_fatalIrq (i : SqId) (x : Sq) : (s.setSq i x).fatalIrq = s.fatalIrq := rfl
@[simp] theorem State.setSq_thirds (i : SqId) (x : Sq) : (s.setSq i x).thirds = s.thirds := rfl
@[simp] theorem State.setSq_ms (i : SqId) (x : Sq) : (s.setSq i x).ms = s.ms := rfl
@[simp] theorem State.setSq_lines (i : SqId) (x : Sq) : (s.setSq i x).lines = s.lines := rfl
@[simp] theorem State.setSq_scheds (i : SqId) (x : Sq) : (s.setSq i x).scheds = s.scheds := rfl
@[simp] theorem State.setSq_nodes (i : SqId) (x : Sq) : (s.setSq i x).nodes = s.nodes := rfl
@[simp] theorem State.setSq_slots (i : SqId) (x : Sq) : (s.setSq i x).slots = s.slots := rfl
@[simp] theorem State.setSq_polls (i : SqId) (x : Sq) : (s.setSq i x).polls = s.polls := rfl
@[simp] theorem State.setSq_cqs (i : SqId) (x : Sq) : (s.setSq i x).cqs = s.cqs := rfl
@[simp] theorem State.setSq_fetch (i : SqId) (x : Sq) : (s.setSq i x).fetch = s.fetch := rfl
@[simp] theorem State.setSq_fetchPosU (i : SqId) (x : Sq) : (s.setSq i x).fetchPosU = s.fetchPosU := rfl
@[simp] theorem State.setSq_fetchPosN (i : SqId) (x : Sq) : (s.setSq i x).fetchPosN = s.fetchPosN := rfl
@[simp] theorem State.setSq_writer (i : SqId) (x : Sq) : (s.setSq i x).writer = s.writer := rfl
@[simp] theorem State.setSq_writerPos (i : SqId) (x : Sq) : (s.setSq i x).writerPos = s.writerPos := rfl
@[simp] theorem State.setSq_noticeList (i : SqId) (x : Sq) : (s.setSq i x).noticeList = s.noticeList := rfl
@[simp] theorem State.setSq_noticeCq (i : SqId) (x : Sq) : (s.setSq i x).noticeCq = s.noticeCq := rfl
@[simp] theorem State.setSq_adminWork (i : SqId) (x : Sq) : (s.setSq i x).adminWork = s.adminWork := rfl
@[simp] theorem State.setSq_adminResult (i : SqId) (x : Sq) : (s.setSq i x).adminResult = s.adminResult := rfl
@[simp] theorem State.setSq_waiting (i : SqId) (x : Sq) : (s.setSq i x).waiting = s.waiting := rfl
@[simp] theorem State.setSq_ready (i : SqId) (x : Sq) : (s.setSq i x).ready = s.ready := rfl
@[simp] theorem State.setSq_quRead (i : SqId) (x : Sq) : (s.setSq i x).quRead = s.quRead := rfl
@[simp] theorem State.setSq_quWrites (i : SqId) (x : Sq) : (s.setSq i x).quWrites = s.quWrites := rfl
@[simp] theorem State.setSq_adRead (i : SqId) (x : Sq) : (s.setSq i x).adRead = s.adRead := rfl
@[simp] theorem State.setSq_adWrite (i : SqId) (x : Sq) : (s.setSq i x).adWrite = s.adWrite := rfl
@[simp] theorem State.setSq_nuWrite (i : SqId) (x : Sq) : (s.setSq i x).nuWrite = s.nuWrite := rfl
@[simp] theorem State.setSq_answer (i : SqId) (x : Sq) : (s.setSq i x).answer = s.answer := rfl
@[simp] theorem State.setSq_pending (i : SqId) (x : Sq) : (s.setSq i x).pending = s.pending := rfl
@[simp] theorem State.setSq_line (i : SqId) (x : Sq) (k : LineId) : (s.setSq i x).line k = s.line k := rfl
@[simp] theorem State.setSq_sched (i : SqId) (x : Sq) (k : LineId) : (s.setSq i x).sched k = s.sched k := rfl
@[simp] theorem State.setSq_node (i : SqId) (x : Sq) (k : NodeId) : (s.setSq i x).node k = s.node k := rfl
@[simp] theorem State.setSq_slot (i : SqId) (x : Sq) (k : SlotId) : (s.setSq i x).slot k = s.slot k := rfl
@[simp] theorem State.setSq_poll (i : SqId) (x : Sq) (k : PollId) : (s.setSq i x).poll k = s.poll k := rfl
@[simp] theorem State.setSq_cq (i : SqId) (x : Sq) (k : CqId) : (s.setSq i x).cq k = s.cq k := rfl

@[simp] theorem State.modSq_ctl (i : SqId) (f : Sq → Sq) : (s.modSq i f).ctl = s.ctl := rfl
@[simp] theorem State.modSq_fatalCause (i : SqId) (f : Sq → Sq) : (s.modSq i f).fatalCause = s.fatalCause := rfl
@[simp] theorem State.modSq_configError (i : SqId) (f : Sq → Sq) : (s.modSq i f).configError = s.configError := rfl
@[simp] theorem State.modSq_asqBase (i : SqId) (f : Sq → Sq) : (s.modSq i f).asqBase = s.asqBase := rfl
@[simp] theorem State.modSq_acqBase (i : SqId) (f : Sq → Sq) : (s.modSq i f).acqBase = s.acqBase := rfl
@[simp] theorem State.modSq_adminSqSize (i : SqId) (f : Sq → Sq) : (s.modSq i f).adminSqSize = s.adminSqSize := rfl
@[simp] theorem State.modSq_adminCqSize (i : SqId) (f : Sq → Sq) : (s.modSq i f).adminCqSize = s.adminCqSize := rfl
@[simp] theorem State.modSq_fatalIrq (i : SqId) (f : Sq → Sq) : (s.modSq i f).fatalIrq = s.fatalIrq := rfl
@[simp] theorem State.modSq_thirds (i : SqId) (f : Sq → Sq) : (s.modSq i f).thirds = s.thirds := rfl
@[simp] theorem State.modSq_ms (i : SqId) (f : Sq → Sq) : (s.modSq i f).ms = s.ms := rfl
@[simp] theorem State.modSq_lines (i : SqId) (f : Sq → Sq) : (s.modSq i f).lines = s.lines := rfl
@[simp] theorem State.modSq_scheds (i : SqId) (f : Sq → Sq) : (s.modSq i f).scheds = s.scheds := rfl
@[simp] theorem State.modSq_nodes (i : SqId) (f : Sq → Sq) : (s.modSq i f).nodes = s.nodes := rfl
@[simp] theorem State.modSq_slots (i : SqId) (f : Sq → Sq) : (s.modSq i f).slots = s.slots := rfl
@[simp] theorem State.modSq_polls (i : SqId) (f : Sq → Sq) : (s.modSq i f).polls = s.polls := rfl
@[simp] theorem State.modSq_cqs (i : SqId) (f : Sq → Sq) : (s.modSq i f).cqs = s.cqs := rfl
@[simp] theorem State.modSq_fetch (i : SqId) (f : Sq → Sq) : (s.modSq i f).fetch = s.fetch := rfl
@[simp] theorem State.modSq_fetchPosU (i : SqId) (f : Sq → Sq) : (s.modSq i f).fetchPosU = s.fetchPosU := rfl
@[simp] theorem State.modSq_fetchPosN (i : SqId) (f : Sq → Sq) : (s.modSq i f).fetchPosN = s.fetchPosN := rfl
@[simp] theorem State.modSq_writer (i : SqId) (f : Sq → Sq) : (s.modSq i f).writer = s.writer := rfl
@[simp] theorem State.modSq_writerPos (i : SqId) (f : Sq → Sq) : (s.modSq i f).writerPos = s.writerPos := rfl
@[simp] theorem State.modSq_noticeList (i : SqId) (f : Sq → Sq) : (s.modSq i f).noticeList = s.noticeList := rfl
@[simp] theorem State.modSq_noticeCq (i : SqId) (f : Sq → Sq) : (s.modSq i f).noticeCq = s.noticeCq := rfl
@[simp] theorem State.modSq_adminWork (i : SqId) (f : Sq → Sq) : (s.modSq i f).adminWork = s.adminWork := rfl
@[simp] theorem State.modSq_adminResult (i : SqId) (f : Sq → Sq) : (s.modSq i f).adminResult = s.adminResult := rfl
@[simp] theorem State.modSq_waiting (i : SqId) (f : Sq → Sq) : (s.modSq i f).waiting = s.waiting := rfl
@[simp] theorem State.modSq_ready (i : SqId) (f : Sq → Sq) : (s.modSq i f).ready = s.ready := rfl
@[simp] theorem State.modSq_quRead (i : SqId) (f : Sq → Sq) : (s.modSq i f).quRead = s.quRead := rfl
@[simp] theorem State.modSq_quWrites (i : SqId) (f : Sq → Sq) : (s.modSq i f).quWrites = s.quWrites := rfl
@[simp] theorem State.modSq_adRead (i : SqId) (f : Sq → Sq) : (s.modSq i f).adRead = s.adRead := rfl
@[simp] theorem State.modSq_adWrite (i : SqId) (f : Sq → Sq) : (s.modSq i f).adWrite = s.adWrite := rfl
@[simp] theorem State.modSq_nuWrite (i : SqId) (f : Sq → Sq) : (s.modSq i f).nuWrite = s.nuWrite := rfl
@[simp] theorem State.modSq_answer (i : SqId) (f : Sq → Sq) : (s.modSq i f).answer = s.answer := rfl
@[simp] theorem State.modSq_pending (i : SqId) (f : Sq → Sq) : (s.modSq i f).pending = s.pending := rfl
@[simp] theorem State.modSq_line (i : SqId) (f : Sq → Sq) (k : LineId) : (s.modSq i f).line k = s.line k := rfl
@[simp] theorem State.modSq_sched (i : SqId) (f : Sq → Sq) (k : LineId) : (s.modSq i f).sched k = s.sched k := rfl
@[simp] theorem State.modSq_node (i : SqId) (f : Sq → Sq) (k : NodeId) : (s.modSq i f).node k = s.node k := rfl
@[simp] theorem State.modSq_slot (i : SqId) (f : Sq → Sq) (k : SlotId) : (s.modSq i f).slot k = s.slot k := rfl
@[simp] theorem State.modSq_poll (i : SqId) (f : Sq → Sq) (k : PollId) : (s.modSq i f).poll k = s.poll k := rfl
@[simp] theorem State.modSq_cq (i : SqId) (f : Sq → Sq) (k : CqId) : (s.modSq i f).cq k = s.cq k := rfl

@[simp] theorem State.setCq_ctl (i : CqId) (x : Cq) : (s.setCq i x).ctl = s.ctl := rfl
@[simp] theorem State.setCq_fatalCause (i : CqId) (x : Cq) : (s.setCq i x).fatalCause = s.fatalCause := rfl
@[simp] theorem State.setCq_configError (i : CqId) (x : Cq) : (s.setCq i x).configError = s.configError := rfl
@[simp] theorem State.setCq_asqBase (i : CqId) (x : Cq) : (s.setCq i x).asqBase = s.asqBase := rfl
@[simp] theorem State.setCq_acqBase (i : CqId) (x : Cq) : (s.setCq i x).acqBase = s.acqBase := rfl
@[simp] theorem State.setCq_adminSqSize (i : CqId) (x : Cq) : (s.setCq i x).adminSqSize = s.adminSqSize := rfl
@[simp] theorem State.setCq_adminCqSize (i : CqId) (x : Cq) : (s.setCq i x).adminCqSize = s.adminCqSize := rfl
@[simp] theorem State.setCq_fatalIrq (i : CqId) (x : Cq) : (s.setCq i x).fatalIrq = s.fatalIrq := rfl
@[simp] theorem State.setCq_thirds (i : CqId) (x : Cq) : (s.setCq i x).thirds = s.thirds := rfl
@[simp] theorem State.setCq_ms (i : CqId) (x : Cq) : (s.setCq i x).ms = s.ms := rfl
@[simp] theorem State.setCq_lines (i : CqId) (x : Cq) : (s.setCq i x).lines = s.lines := rfl
@[simp] theorem State.setCq_scheds (i : CqId) (x : Cq) : (s.setCq i x).scheds = s.scheds := rfl
@[simp] theorem State.setCq_nodes (i : CqId) (x : Cq) : (s.setCq i x).nodes = s.nodes := rfl
@[simp] theorem State.setCq_slots (i : CqId) (x : Cq) : (s.setCq i x).slots = s.slots := rfl
@[simp] theorem State.setCq_polls (i : CqId) (x : Cq) : (s.setCq i x).polls = s.polls := rfl
@[simp] theorem State.setCq_sqs (i : CqId) (x : Cq) : (s.setCq i x).sqs = s.sqs := rfl
@[simp] theorem State.setCq_fetch (i : CqId) (x : Cq) : (s.setCq i x).fetch = s.fetch := rfl
@[simp] theorem State.setCq_fetchPosU (i : CqId) (x : Cq) : (s.setCq i x).fetchPosU = s.fetchPosU := rfl
@[simp] theorem State.setCq_fetchPosN (i : CqId) (x : Cq) : (s.setCq i x).fetchPosN = s.fetchPosN := rfl
@[simp] theorem State.setCq_writer (i : CqId) (x : Cq) : (s.setCq i x).writer = s.writer := rfl
@[simp] theorem State.setCq_writerPos (i : CqId) (x : Cq) : (s.setCq i x).writerPos = s.writerPos := rfl
@[simp] theorem State.setCq_noticeList (i : CqId) (x : Cq) : (s.setCq i x).noticeList = s.noticeList := rfl
@[simp] theorem State.setCq_noticeCq (i : CqId) (x : Cq) : (s.setCq i x).noticeCq = s.noticeCq := rfl
@[simp] theorem State.setCq_adminWork (i : CqId) (x : Cq) : (s.setCq i x).adminWork = s.adminWork := rfl
@[simp] theorem State.setCq_adminResult (i : CqId) (x : Cq) : (s.setCq i x).adminResult = s.adminResult := rfl
@[simp] theorem State.setCq_waiting (i : CqId) (x : Cq) : (s.setCq i x).waiting = s.waiting := rfl
@[simp] theorem State.setCq_ready (i : CqId) (x : Cq) : (s.setCq i x).ready = s.ready := rfl
@[simp] theorem State.setCq_quRead (i : CqId) (x : Cq) : (s.setCq i x).quRead = s.quRead := rfl
@[simp] theorem State.setCq_quWrites (i : CqId) (x : Cq) : (s.setCq i x).quWrites = s.quWrites := rfl
@[simp] theorem State.setCq_adRead (i : CqId) (x : Cq) : (s.setCq i x).adRead = s.adRead := rfl
@[simp] theorem State.setCq_adWrite (i : CqId) (x : Cq) : (s.setCq i x).adWrite = s.adWrite := rfl
@[simp] theorem State.setCq_nuWrite (i : CqId) (x : Cq) : (s.setCq i x).nuWrite = s.nuWrite := rfl
@[simp] theorem State.setCq_answer (i : CqId) (x : Cq) : (s.setCq i x).answer = s.answer := rfl
@[simp] theorem State.setCq_pending (i : CqId) (x : Cq) : (s.setCq i x).pending = s.pending := rfl
@[simp] theorem State.setCq_line (i : CqId) (x : Cq) (k : LineId) : (s.setCq i x).line k = s.line k := rfl
@[simp] theorem State.setCq_sched (i : CqId) (x : Cq) (k : LineId) : (s.setCq i x).sched k = s.sched k := rfl
@[simp] theorem State.setCq_node (i : CqId) (x : Cq) (k : NodeId) : (s.setCq i x).node k = s.node k := rfl
@[simp] theorem State.setCq_slot (i : CqId) (x : Cq) (k : SlotId) : (s.setCq i x).slot k = s.slot k := rfl
@[simp] theorem State.setCq_poll (i : CqId) (x : Cq) (k : PollId) : (s.setCq i x).poll k = s.poll k := rfl
@[simp] theorem State.setCq_sq (i : CqId) (x : Cq) (k : SqId) : (s.setCq i x).sq k = s.sq k := rfl

@[simp] theorem State.modCq_ctl (i : CqId) (f : Cq → Cq) : (s.modCq i f).ctl = s.ctl := rfl
@[simp] theorem State.modCq_fatalCause (i : CqId) (f : Cq → Cq) : (s.modCq i f).fatalCause = s.fatalCause := rfl
@[simp] theorem State.modCq_configError (i : CqId) (f : Cq → Cq) : (s.modCq i f).configError = s.configError := rfl
@[simp] theorem State.modCq_asqBase (i : CqId) (f : Cq → Cq) : (s.modCq i f).asqBase = s.asqBase := rfl
@[simp] theorem State.modCq_acqBase (i : CqId) (f : Cq → Cq) : (s.modCq i f).acqBase = s.acqBase := rfl
@[simp] theorem State.modCq_adminSqSize (i : CqId) (f : Cq → Cq) : (s.modCq i f).adminSqSize = s.adminSqSize := rfl
@[simp] theorem State.modCq_adminCqSize (i : CqId) (f : Cq → Cq) : (s.modCq i f).adminCqSize = s.adminCqSize := rfl
@[simp] theorem State.modCq_fatalIrq (i : CqId) (f : Cq → Cq) : (s.modCq i f).fatalIrq = s.fatalIrq := rfl
@[simp] theorem State.modCq_thirds (i : CqId) (f : Cq → Cq) : (s.modCq i f).thirds = s.thirds := rfl
@[simp] theorem State.modCq_ms (i : CqId) (f : Cq → Cq) : (s.modCq i f).ms = s.ms := rfl
@[simp] theorem State.modCq_lines (i : CqId) (f : Cq → Cq) : (s.modCq i f).lines = s.lines := rfl
@[simp] theorem State.modCq_scheds (i : CqId) (f : Cq → Cq) : (s.modCq i f).scheds = s.scheds := rfl
@[simp] theorem State.modCq_nodes (i : CqId) (f : Cq → Cq) : (s.modCq i f).nodes = s.nodes := rfl
@[simp] theorem State.modCq_slots (i : CqId) (f : Cq → Cq) : (s.modCq i f).slots = s.slots := rfl
@[simp] theorem State.modCq_polls (i : CqId) (f : Cq → Cq) : (s.modCq i f).polls = s.polls := rfl
@[simp] theorem State.modCq_sqs (i : CqId) (f : Cq → Cq) : (s.modCq i f).sqs = s.sqs := rfl
@[simp] theorem State.modCq_fetch (i : CqId) (f : Cq → Cq) : (s.modCq i f).fetch = s.fetch := rfl
@[simp] theorem State.modCq_fetchPosU (i : CqId) (f : Cq → Cq) : (s.modCq i f).fetchPosU = s.fetchPosU := rfl
@[simp] theorem State.modCq_fetchPosN (i : CqId) (f : Cq → Cq) : (s.modCq i f).fetchPosN = s.fetchPosN := rfl
@[simp] theorem State.modCq_writer (i : CqId) (f : Cq → Cq) : (s.modCq i f).writer = s.writer := rfl
@[simp] theorem State.modCq_writerPos (i : CqId) (f : Cq → Cq) : (s.modCq i f).writerPos = s.writerPos := rfl
@[simp] theorem State.modCq_noticeList (i : CqId) (f : Cq → Cq) : (s.modCq i f).noticeList = s.noticeList := rfl
@[simp] theorem State.modCq_noticeCq (i : CqId) (f : Cq → Cq) : (s.modCq i f).noticeCq = s.noticeCq := rfl
@[simp] theorem State.modCq_adminWork (i : CqId) (f : Cq → Cq) : (s.modCq i f).adminWork = s.adminWork := rfl
@[simp] theorem State.modCq_adminResult (i : CqId) (f : Cq → Cq) : (s.modCq i f).adminResult = s.adminResult := rfl
@[simp] theorem State.modCq_waiting (i : CqId) (f : Cq → Cq) : (s.modCq i f).waiting = s.waiting := rfl
@[simp] theorem State.modCq_ready (i : CqId) (f : Cq → Cq) : (s.modCq i f).ready = s.ready := rfl
@[simp] theorem State.modCq_quRead (i : CqId) (f : Cq → Cq) : (s.modCq i f).quRead = s.quRead := rfl
@[simp] theorem State.modCq_quWrites (i : CqId) (f : Cq → Cq) : (s.modCq i f).quWrites = s.quWrites := rfl
@[simp] theorem State.modCq_adRead (i : CqId) (f : Cq → Cq) : (s.modCq i f).adRead = s.adRead := rfl
@[simp] theorem State.modCq_adWrite (i : CqId) (f : Cq → Cq) : (s.modCq i f).adWrite = s.adWrite := rfl
@[simp] theorem State.modCq_nuWrite (i : CqId) (f : Cq → Cq) : (s.modCq i f).nuWrite = s.nuWrite := rfl
@[simp] theorem State.modCq_answer (i : CqId) (f : Cq → Cq) : (s.modCq i f).answer = s.answer := rfl
@[simp] theorem State.modCq_pending (i : CqId) (f : Cq → Cq) : (s.modCq i f).pending = s.pending := rfl
@[simp] theorem State.modCq_line (i : CqId) (f : Cq → Cq) (k : LineId) : (s.modCq i f).line k = s.line k := rfl
@[simp] theorem State.modCq_sched (i : CqId) (f : Cq → Cq) (k : LineId) : (s.modCq i f).sched k = s.sched k := rfl
@[simp] theorem State.modCq_node (i : CqId) (f : Cq → Cq) (k : NodeId) : (s.modCq i f).node k = s.node k := rfl
@[simp] theorem State.modCq_slot (i : CqId) (f : Cq → Cq) (k : SlotId) : (s.modCq i f).slot k = s.slot k := rfl
@[simp] theorem State.modCq_poll (i : CqId) (f : Cq → Cq) (k : PollId) : (s.modCq i f).poll k = s.poll k := rfl
@[simp] theorem State.modCq_sq (i : CqId) (f : Cq → Cq) (k : SqId) : (s.modCq i f).sq k = s.sq k := rfl

@[simp] theorem State.modTxn_ctl (i : SlotId) (f : Txn → Txn) : (s.modTxn i f).ctl = s.ctl := rfl
@[simp] theorem State.modTxn_fatalCause (i : SlotId) (f : Txn → Txn) : (s.modTxn i f).fatalCause = s.fatalCause := rfl
@[simp] theorem State.modTxn_configError (i : SlotId) (f : Txn → Txn) : (s.modTxn i f).configError = s.configError := rfl
@[simp] theorem State.modTxn_asqBase (i : SlotId) (f : Txn → Txn) : (s.modTxn i f).asqBase = s.asqBase := rfl
@[simp] theorem State.modTxn_acqBase (i : SlotId) (f : Txn → Txn) : (s.modTxn i f).acqBase = s.acqBase := rfl
@[simp] theorem State.modTxn_adminSqSize (i : SlotId) (f : Txn → Txn) : (s.modTxn i f).adminSqSize = s.adminSqSize := rfl
@[simp] theorem State.modTxn_adminCqSize (i : SlotId) (f : Txn → Txn) : (s.modTxn i f).adminCqSize = s.adminCqSize := rfl
@[simp] theorem State.modTxn_fatalIrq (i : SlotId) (f : Txn → Txn) : (s.modTxn i f).fatalIrq = s.fatalIrq := rfl
@[simp] theorem State.modTxn_thirds (i : SlotId) (f : Txn → Txn) : (s.modTxn i f).thirds = s.thirds := rfl
@[simp] theorem State.modTxn_ms (i : SlotId) (f : Txn → Txn) : (s.modTxn i f).ms = s.ms := rfl
@[simp] theorem State.modTxn_lines (i : SlotId) (f : Txn → Txn) : (s.modTxn i f).lines = s.lines := rfl
@[simp] theorem State.modTxn_scheds (i : SlotId) (f : Txn → Txn) : (s.modTxn i f).scheds = s.scheds := rfl
@[simp] theorem State.modTxn_nodes (i : SlotId) (f : Txn → Txn) : (s.modTxn i f).nodes = s.nodes := rfl
@[simp] theorem State.modTxn_polls (i : SlotId) (f : Txn → Txn) : (s.modTxn i f).polls = s.polls := rfl
@[simp] theorem State.modTxn_sqs (i : SlotId) (f : Txn → Txn) : (s.modTxn i f).sqs = s.sqs := rfl
@[simp] theorem State.modTxn_cqs (i : SlotId) (f : Txn → Txn) : (s.modTxn i f).cqs = s.cqs := rfl
@[simp] theorem State.modTxn_fetch (i : SlotId) (f : Txn → Txn) : (s.modTxn i f).fetch = s.fetch := rfl
@[simp] theorem State.modTxn_fetchPosU (i : SlotId) (f : Txn → Txn) : (s.modTxn i f).fetchPosU = s.fetchPosU := rfl
@[simp] theorem State.modTxn_fetchPosN (i : SlotId) (f : Txn → Txn) : (s.modTxn i f).fetchPosN = s.fetchPosN := rfl
@[simp] theorem State.modTxn_writer (i : SlotId) (f : Txn → Txn) : (s.modTxn i f).writer = s.writer := rfl
@[simp] theorem State.modTxn_writerPos (i : SlotId) (f : Txn → Txn) : (s.modTxn i f).writerPos = s.writerPos := rfl
@[simp] theorem State.modTxn_noticeList (i : SlotId) (f : Txn → Txn) : (s.modTxn i f).noticeList = s.noticeList := rfl
@[simp] theorem State.modTxn_noticeCq (i : SlotId) (f : Txn → Txn) : (s.modTxn i f).noticeCq = s.noticeCq := rfl
@[simp] theorem State.modTxn_adminWork (i : SlotId) (f : Txn → Txn) : (s.modTxn i f).adminWork = s.adminWork := rfl
@[simp] theorem State.modTxn_adminResult (i : SlotId) (f : Txn → Txn) : (s.modTxn i f).adminResult = s.adminResult := rfl
@[simp] theorem State.modTxn_waiting (i : SlotId) (f : Txn → Txn) : (s.modTxn i f).waiting = s.waiting := rfl
@[simp] theorem State.modTxn_ready (i : SlotId) (f : Txn → Txn) : (s.modTxn i f).ready = s.ready := rfl
@[simp] theorem State.modTxn_quRead (i : SlotId) (f : Txn → Txn) : (s.modTxn i f).quRead = s.quRead := rfl
@[simp] theorem State.modTxn_quWrites (i : SlotId) (f : Txn → Txn) : (s.modTxn i f).quWrites = s.quWrites := rfl
@[simp] theorem State.modTxn_adRead (i : SlotId) (f : Txn → Txn) : (s.modTxn i f).adRead = s.adRead := rfl
@[simp] theorem State.modTxn_adWrite (i : SlotId) (f : Txn → Txn) : (s.modTxn i f).adWrite = s.adWrite := rfl
@[simp] theorem State.modTxn_nuWrite (i : SlotId) (f : Txn → Txn) : (s.modTxn i f).nuWrite = s.nuWrite := rfl
@[simp] theorem State.modTxn_answer (i : SlotId) (f : Txn → Txn) : (s.modTxn i f).answer = s.answer := rfl
@[simp] theorem State.modTxn_pending (i : SlotId) (f : Txn → Txn) : (s.modTxn i f).pending = s.pending := rfl
@[simp] theorem State.modTxn_line (i : SlotId) (f : Txn → Txn) (k : LineId) : (s.modTxn i f).line k = s.line k := rfl
@[simp] theorem State.modTxn_sched (i : SlotId) (f : Txn → Txn) (k : LineId) : (s.modTxn i f).sched k = s.sched k := rfl
@[simp] theorem State.modTxn_node (i : SlotId) (f : Txn → Txn) (k : NodeId) : (s.modTxn i f).node k = s.node k := rfl
@[simp] theorem State.modTxn_poll (i : SlotId) (f : Txn → Txn) (k : PollId) : (s.modTxn i f).poll k = s.poll k := rfl
@[simp] theorem State.modTxn_sq (i : SlotId) (f : Txn → Txn) (k : SqId) : (s.modTxn i f).sq k = s.sq k := rfl
@[simp] theorem State.modTxn_cq (i : SlotId) (f : Txn → Txn) (k : CqId) : (s.modTxn i f).cq k = s.cq k := rfl

@[simp] theorem State.unpend_ctl (x : Source) : (s.unpend x).ctl = s.ctl := rfl
@[simp] theorem State.unpend_fatalCause (x : Source) : (s.unpend x).fatalCause = s.fatalCause := rfl
@[simp] theorem State.unpend_configError (x : Source) : (s.unpend x).configError = s.configError := rfl
@[simp] theorem State.unpend_asqBase (x : Source) : (s.unpend x).asqBase = s.asqBase := rfl
@[simp] theorem State.unpend_acqBase (x : Source) : (s.unpend x).acqBase = s.acqBase := rfl
@[simp] theorem State.unpend_adminSqSize (x : Source) : (s.unpend x).adminSqSize = s.adminSqSize := rfl
@[simp] theorem State.unpend_adminCqSize (x : Source) : (s.unpend x).adminCqSize = s.adminCqSize := rfl
@[simp] theorem State.unpend_fatalIrq (x : Source) : (s.unpend x).fatalIrq = s.fatalIrq := rfl
@[simp] theorem State.unpend_thirds (x : Source) : (s.unpend x).thirds = s.thirds := rfl
@[simp] theorem State.unpend_ms (x : Source) : (s.unpend x).ms = s.ms := rfl
@[simp] theorem State.unpend_lines (x : Source) : (s.unpend x).lines = s.lines := rfl
@[simp] theorem State.unpend_scheds (x : Source) : (s.unpend x).scheds = s.scheds := rfl
@[simp] theorem State.unpend_nodes (x : Source) : (s.unpend x).nodes = s.nodes := rfl
@[simp] theorem State.unpend_slots (x : Source) : (s.unpend x).slots = s.slots := rfl
@[simp] theorem State.unpend_polls (x : Source) : (s.unpend x).polls = s.polls := rfl
@[simp] theorem State.unpend_sqs (x : Source) : (s.unpend x).sqs = s.sqs := rfl
@[simp] theorem State.unpend_cqs (x : Source) : (s.unpend x).cqs = s.cqs := rfl
@[simp] theorem State.unpend_fetch (x : Source) : (s.unpend x).fetch = s.fetch := rfl
@[simp] theorem State.unpend_fetchPosU (x : Source) : (s.unpend x).fetchPosU = s.fetchPosU := rfl
@[simp] theorem State.unpend_fetchPosN (x : Source) : (s.unpend x).fetchPosN = s.fetchPosN := rfl
@[simp] theorem State.unpend_writer (x : Source) : (s.unpend x).writer = s.writer := rfl
@[simp] theorem State.unpend_writerPos (x : Source) : (s.unpend x).writerPos = s.writerPos := rfl
@[simp] theorem State.unpend_noticeCq (x : Source) : (s.unpend x).noticeCq = s.noticeCq := rfl
@[simp] theorem State.unpend_adminWork (x : Source) : (s.unpend x).adminWork = s.adminWork := rfl
@[simp] theorem State.unpend_adminResult (x : Source) : (s.unpend x).adminResult = s.adminResult := rfl
@[simp] theorem State.unpend_waiting (x : Source) : (s.unpend x).waiting = s.waiting := rfl
@[simp] theorem State.unpend_ready (x : Source) : (s.unpend x).ready = s.ready := rfl
@[simp] theorem State.unpend_quRead (x : Source) : (s.unpend x).quRead = s.quRead := rfl
@[simp] theorem State.unpend_quWrites (x : Source) : (s.unpend x).quWrites = s.quWrites := rfl
@[simp] theorem State.unpend_adRead (x : Source) : (s.unpend x).adRead = s.adRead := rfl
@[simp] theorem State.unpend_adWrite (x : Source) : (s.unpend x).adWrite = s.adWrite := rfl
@[simp] theorem State.unpend_nuWrite (x : Source) : (s.unpend x).nuWrite = s.nuWrite := rfl
@[simp] theorem State.unpend_answer (x : Source) : (s.unpend x).answer = s.answer := rfl
@[simp] theorem State.unpend_pending (x : Source) : (s.unpend x).pending = s.pending := rfl
@[simp] theorem State.unpend_line (x : Source) (k : LineId) : (s.unpend x).line k = s.line k := rfl
@[simp] theorem State.unpend_sched (x : Source) (k : LineId) : (s.unpend x).sched k = s.sched k := rfl
@[simp] theorem State.unpend_node (x : Source) (k : NodeId) : (s.unpend x).node k = s.node k := rfl
@[simp] theorem State.unpend_slot (x : Source) (k : SlotId) : (s.unpend x).slot k = s.slot k := rfl
@[simp] theorem State.unpend_poll (x : Source) (k : PollId) : (s.unpend x).poll k = s.poll k := rfl
@[simp] theorem State.unpend_sq (x : Source) (k : SqId) : (s.unpend x).sq k = s.sq k := rfl
@[simp] theorem State.unpend_cq (x : Source) (k : CqId) : (s.unpend x).cq k = s.cq k := rfl

@[simp] theorem State.pushWrite_ctl (w : BusWrite) : (s.pushWrite w).ctl = s.ctl := rfl
@[simp] theorem State.pushWrite_fatalCause (w : BusWrite) : (s.pushWrite w).fatalCause = s.fatalCause := rfl
@[simp] theorem State.pushWrite_configError (w : BusWrite) : (s.pushWrite w).configError = s.configError := rfl
@[simp] theorem State.pushWrite_asqBase (w : BusWrite) : (s.pushWrite w).asqBase = s.asqBase := rfl
@[simp] theorem State.pushWrite_acqBase (w : BusWrite) : (s.pushWrite w).acqBase = s.acqBase := rfl
@[simp] theorem State.pushWrite_adminSqSize (w : BusWrite) : (s.pushWrite w).adminSqSize = s.adminSqSize := rfl
@[simp] theorem State.pushWrite_adminCqSize (w : BusWrite) : (s.pushWrite w).adminCqSize = s.adminCqSize := rfl
@[simp] theorem State.pushWrite_fatalIrq (w : BusWrite) : (s.pushWrite w).fatalIrq = s.fatalIrq := rfl
@[simp] theorem State.pushWrite_thirds (w : BusWrite) : (s.pushWrite w).thirds = s.thirds := rfl
@[simp] theorem State.pushWrite_ms (w : BusWrite) : (s.pushWrite w).ms = s.ms := rfl
@[simp] theorem State.pushWrite_lines (w : BusWrite) : (s.pushWrite w).lines = s.lines := rfl
@[simp] theorem State.pushWrite_scheds (w : BusWrite) : (s.pushWrite w).scheds = s.scheds := rfl
@[simp] theorem State.pushWrite_nodes (w : BusWrite) : (s.pushWrite w).nodes = s.nodes := rfl
@[simp] theorem State.pushWrite_slots (w : BusWrite) : (s.pushWrite w).slots = s.slots := rfl
@[simp] theorem State.pushWrite_polls (w : BusWrite) : (s.pushWrite w).polls = s.polls := rfl
@[simp] theorem State.pushWrite_sqs (w : BusWrite) : (s.pushWrite w).sqs = s.sqs := rfl
@[simp] theorem State.pushWrite_cqs (w : BusWrite) : (s.pushWrite w).cqs = s.cqs := rfl
@[simp] theorem State.pushWrite_fetch (w : BusWrite) : (s.pushWrite w).fetch = s.fetch := rfl
@[simp] theorem State.pushWrite_fetchPosU (w : BusWrite) : (s.pushWrite w).fetchPosU = s.fetchPosU := rfl
@[simp] theorem State.pushWrite_fetchPosN (w : BusWrite) : (s.pushWrite w).fetchPosN = s.fetchPosN := rfl
@[simp] theorem State.pushWrite_writer (w : BusWrite) : (s.pushWrite w).writer = s.writer := rfl
@[simp] theorem State.pushWrite_writerPos (w : BusWrite) : (s.pushWrite w).writerPos = s.writerPos := rfl
@[simp] theorem State.pushWrite_noticeList (w : BusWrite) : (s.pushWrite w).noticeList = s.noticeList := rfl
@[simp] theorem State.pushWrite_noticeCq (w : BusWrite) : (s.pushWrite w).noticeCq = s.noticeCq := rfl
@[simp] theorem State.pushWrite_adminWork (w : BusWrite) : (s.pushWrite w).adminWork = s.adminWork := rfl
@[simp] theorem State.pushWrite_adminResult (w : BusWrite) : (s.pushWrite w).adminResult = s.adminResult := rfl
@[simp] theorem State.pushWrite_waiting (w : BusWrite) : (s.pushWrite w).waiting = s.waiting := rfl
@[simp] theorem State.pushWrite_ready (w : BusWrite) : (s.pushWrite w).ready = s.ready := rfl
@[simp] theorem State.pushWrite_quRead (w : BusWrite) : (s.pushWrite w).quRead = s.quRead := rfl
@[simp] theorem State.pushWrite_adRead (w : BusWrite) : (s.pushWrite w).adRead = s.adRead := rfl
@[simp] theorem State.pushWrite_adWrite (w : BusWrite) : (s.pushWrite w).adWrite = s.adWrite := rfl
@[simp] theorem State.pushWrite_nuWrite (w : BusWrite) : (s.pushWrite w).nuWrite = s.nuWrite := rfl
@[simp] theorem State.pushWrite_answer (w : BusWrite) : (s.pushWrite w).answer = s.answer := rfl
@[simp] theorem State.pushWrite_pending (w : BusWrite) : (s.pushWrite w).pending = s.pending := rfl
@[simp] theorem State.pushWrite_line (w : BusWrite) (k : LineId) : (s.pushWrite w).line k = s.line k := rfl
@[simp] theorem State.pushWrite_sched (w : BusWrite) (k : LineId) : (s.pushWrite w).sched k = s.sched k := rfl
@[simp] theorem State.pushWrite_node (w : BusWrite) (k : NodeId) : (s.pushWrite w).node k = s.node k := rfl
@[simp] theorem State.pushWrite_slot (w : BusWrite) (k : SlotId) : (s.pushWrite w).slot k = s.slot k := rfl
@[simp] theorem State.pushWrite_poll (w : BusWrite) (k : PollId) : (s.pushWrite w).poll k = s.poll k := rfl
@[simp] theorem State.pushWrite_sq (w : BusWrite) (k : SqId) : (s.pushWrite w).sq k = s.sq k := rfl
@[simp] theorem State.pushWrite_cq (w : BusWrite) (k : CqId) : (s.pushWrite w).cq k = s.cq k := rfl

@[simp] theorem State.makeReady_ctl (x : Source) : (s.makeReady x).ctl = s.ctl := rfl
@[simp] theorem State.makeReady_fatalCause (x : Source) : (s.makeReady x).fatalCause = s.fatalCause := rfl
@[simp] theorem State.makeReady_configError (x : Source) : (s.makeReady x).configError = s.configError := rfl
@[simp] theorem State.makeReady_asqBase (x : Source) : (s.makeReady x).asqBase = s.asqBase := rfl
@[simp] theorem State.makeReady_acqBase (x : Source) : (s.makeReady x).acqBase = s.acqBase := rfl
@[simp] theorem State.makeReady_adminSqSize (x : Source) : (s.makeReady x).adminSqSize = s.adminSqSize := rfl
@[simp] theorem State.makeReady_adminCqSize (x : Source) : (s.makeReady x).adminCqSize = s.adminCqSize := rfl
@[simp] theorem State.makeReady_fatalIrq (x : Source) : (s.makeReady x).fatalIrq = s.fatalIrq := rfl
@[simp] theorem State.makeReady_thirds (x : Source) : (s.makeReady x).thirds = s.thirds := rfl
@[simp] theorem State.makeReady_ms (x : Source) : (s.makeReady x).ms = s.ms := rfl
@[simp] theorem State.makeReady_lines (x : Source) : (s.makeReady x).lines = s.lines := rfl
@[simp] theorem State.makeReady_scheds (x : Source) : (s.makeReady x).scheds = s.scheds := rfl
@[simp] theorem State.makeReady_nodes (x : Source) : (s.makeReady x).nodes = s.nodes := rfl
@[simp] theorem State.makeReady_slots (x : Source) : (s.makeReady x).slots = s.slots := rfl
@[simp] theorem State.makeReady_polls (x : Source) : (s.makeReady x).polls = s.polls := rfl
@[simp] theorem State.makeReady_sqs (x : Source) : (s.makeReady x).sqs = s.sqs := rfl
@[simp] theorem State.makeReady_cqs (x : Source) : (s.makeReady x).cqs = s.cqs := rfl
@[simp] theorem State.makeReady_fetch (x : Source) : (s.makeReady x).fetch = s.fetch := rfl
@[simp] theorem State.makeReady_fetchPosU (x : Source) : (s.makeReady x).fetchPosU = s.fetchPosU := rfl
@[simp] theorem State.makeReady_fetchPosN (x : Source) : (s.makeReady x).fetchPosN = s.fetchPosN := rfl
@[simp] theorem State.makeReady_writer (x : Source) : (s.makeReady x).writer = s.writer := rfl
@[simp] theorem State.makeReady_writerPos (x : Source) : (s.makeReady x).writerPos = s.writerPos := rfl
@[simp] theorem State.makeReady_noticeList (x : Source) : (s.makeReady x).noticeList = s.noticeList := rfl
@[simp] theorem State.makeReady_noticeCq (x : Source) : (s.makeReady x).noticeCq = s.noticeCq := rfl
@[simp] theorem State.makeReady_adminWork (x : Source) : (s.makeReady x).adminWork = s.adminWork := rfl
@[simp] theorem State.makeReady_adminResult (x : Source) : (s.makeReady x).adminResult = s.adminResult := rfl
@[simp] theorem State.makeReady_quRead (x : Source) : (s.makeReady x).quRead = s.quRead := rfl
@[simp] theorem State.makeReady_quWrites (x : Source) : (s.makeReady x).quWrites = s.quWrites := rfl
@[simp] theorem State.makeReady_adRead (x : Source) : (s.makeReady x).adRead = s.adRead := rfl
@[simp] theorem State.makeReady_adWrite (x : Source) : (s.makeReady x).adWrite = s.adWrite := rfl
@[simp] theorem State.makeReady_nuWrite (x : Source) : (s.makeReady x).nuWrite = s.nuWrite := rfl
@[simp] theorem State.makeReady_answer (x : Source) : (s.makeReady x).answer = s.answer := rfl
@[simp] theorem State.makeReady_pending (x : Source) : (s.makeReady x).pending = s.pending := rfl
@[simp] theorem State.makeReady_line (x : Source) (k : LineId) : (s.makeReady x).line k = s.line k := rfl
@[simp] theorem State.makeReady_sched (x : Source) (k : LineId) : (s.makeReady x).sched k = s.sched k := rfl
@[simp] theorem State.makeReady_node (x : Source) (k : NodeId) : (s.makeReady x).node k = s.node k := rfl
@[simp] theorem State.makeReady_slot (x : Source) (k : SlotId) : (s.makeReady x).slot k = s.slot k := rfl
@[simp] theorem State.makeReady_poll (x : Source) (k : PollId) : (s.makeReady x).poll k = s.poll k := rfl
@[simp] theorem State.makeReady_sq (x : Source) (k : SqId) : (s.makeReady x).sq k = s.sq k := rfl
@[simp] theorem State.makeReady_cq (x : Source) (k : CqId) : (s.makeReady x).cq k = s.cq k := rfl

@[simp] theorem State.pass_ctl (n : Nat) : (s.pass n).ctl = s.ctl := rfl
@[simp] theorem State.pass_fatalCause (n : Nat) : (s.pass n).fatalCause = s.fatalCause := rfl
@[simp] theorem State.pass_configError (n : Nat) : (s.pass n).configError = s.configError := rfl
@[simp] theorem State.pass_asqBase (n : Nat) : (s.pass n).asqBase = s.asqBase := rfl
@[simp] theorem State.pass_acqBase (n : Nat) : (s.pass n).acqBase = s.acqBase := rfl
@[simp] theorem State.pass_adminSqSize (n : Nat) : (s.pass n).adminSqSize = s.adminSqSize := rfl
@[simp] theorem State.pass_adminCqSize (n : Nat) : (s.pass n).adminCqSize = s.adminCqSize := rfl
@[simp] theorem State.pass_fatalIrq (n : Nat) : (s.pass n).fatalIrq = s.fatalIrq := rfl
@[simp] theorem State.pass_scheds (n : Nat) : (s.pass n).scheds = s.scheds := rfl
@[simp] theorem State.pass_nodes (n : Nat) : (s.pass n).nodes = s.nodes := rfl
@[simp] theorem State.pass_slots (n : Nat) : (s.pass n).slots = s.slots := rfl
@[simp] theorem State.pass_polls (n : Nat) : (s.pass n).polls = s.polls := rfl
@[simp] theorem State.pass_sqs (n : Nat) : (s.pass n).sqs = s.sqs := rfl
@[simp] theorem State.pass_fetch (n : Nat) : (s.pass n).fetch = s.fetch := rfl
@[simp] theorem State.pass_fetchPosU (n : Nat) : (s.pass n).fetchPosU = s.fetchPosU := rfl
@[simp] theorem State.pass_fetchPosN (n : Nat) : (s.pass n).fetchPosN = s.fetchPosN := rfl
@[simp] theorem State.pass_writer (n : Nat) : (s.pass n).writer = s.writer := rfl
@[simp] theorem State.pass_writerPos (n : Nat) : (s.pass n).writerPos = s.writerPos := rfl
@[simp] theorem State.pass_noticeList (n : Nat) : (s.pass n).noticeList = s.noticeList := rfl
@[simp] theorem State.pass_noticeCq (n : Nat) : (s.pass n).noticeCq = s.noticeCq := rfl
@[simp] theorem State.pass_adminWork (n : Nat) : (s.pass n).adminWork = s.adminWork := rfl
@[simp] theorem State.pass_adminResult (n : Nat) : (s.pass n).adminResult = s.adminResult := rfl
@[simp] theorem State.pass_waiting (n : Nat) : (s.pass n).waiting = s.waiting := rfl
@[simp] theorem State.pass_ready (n : Nat) : (s.pass n).ready = s.ready := rfl
@[simp] theorem State.pass_quRead (n : Nat) : (s.pass n).quRead = s.quRead := rfl
@[simp] theorem State.pass_quWrites (n : Nat) : (s.pass n).quWrites = s.quWrites := rfl
@[simp] theorem State.pass_adRead (n : Nat) : (s.pass n).adRead = s.adRead := rfl
@[simp] theorem State.pass_adWrite (n : Nat) : (s.pass n).adWrite = s.adWrite := rfl
@[simp] theorem State.pass_nuWrite (n : Nat) : (s.pass n).nuWrite = s.nuWrite := rfl
@[simp] theorem State.pass_answer (n : Nat) : (s.pass n).answer = s.answer := rfl
@[simp] theorem State.pass_pending (n : Nat) : (s.pass n).pending = s.pending := rfl
@[simp] theorem State.pass_sched (n : Nat) (k : LineId) : (s.pass n).sched k = s.sched k := rfl
@[simp] theorem State.pass_node (n : Nat) (k : NodeId) : (s.pass n).node k = s.node k := rfl
@[simp] theorem State.pass_slot (n : Nat) (k : SlotId) : (s.pass n).slot k = s.slot k := rfl
@[simp] theorem State.pass_poll (n : Nat) (k : PollId) : (s.pass n).poll k = s.poll k := rfl
@[simp] theorem State.pass_sq (n : Nat) (k : SqId) : (s.pass n).sq k = s.sq k := rfl

@[simp] theorem State.begins_ctl : (s.begins).ctl = s.ctl := rfl
@[simp] theorem State.begins_fatalCause : (s.begins).fatalCause = s.fatalCause := rfl
@[simp] theorem State.begins_configError : (s.begins).configError = s.configError := rfl
@[simp] theorem State.begins_asqBase : (s.begins).asqBase = s.asqBase := rfl
@[simp] theorem State.begins_acqBase : (s.begins).acqBase = s.acqBase := rfl
@[simp] theorem State.begins_adminSqSize : (s.begins).adminSqSize = s.adminSqSize := rfl
@[simp] theorem State.begins_adminCqSize : (s.begins).adminCqSize = s.adminCqSize := rfl
@[simp] theorem State.begins_fatalIrq : (s.begins).fatalIrq = s.fatalIrq := rfl
@[simp] theorem State.begins_thirds : (s.begins).thirds = s.thirds := rfl
@[simp] theorem State.begins_ms : (s.begins).ms = s.ms := rfl
@[simp] theorem State.begins_scheds : (s.begins).scheds = s.scheds := rfl
@[simp] theorem State.begins_nodes : (s.begins).nodes = s.nodes := rfl
@[simp] theorem State.begins_slots : (s.begins).slots = s.slots := rfl
@[simp] theorem State.begins_polls : (s.begins).polls = s.polls := rfl
@[simp] theorem State.begins_sqs : (s.begins).sqs = s.sqs := rfl
@[simp] theorem State.begins_cqs : (s.begins).cqs = s.cqs := rfl
@[simp] theorem State.begins_fetch : (s.begins).fetch = s.fetch := rfl
@[simp] theorem State.begins_fetchPosU : (s.begins).fetchPosU = s.fetchPosU := rfl
@[simp] theorem State.begins_fetchPosN : (s.begins).fetchPosN = s.fetchPosN := rfl
@[simp] theorem State.begins_writer : (s.begins).writer = s.writer := rfl
@[simp] theorem State.begins_writerPos : (s.begins).writerPos = s.writerPos := rfl
@[simp] theorem State.begins_noticeList : (s.begins).noticeList = s.noticeList := rfl
@[simp] theorem State.begins_noticeCq : (s.begins).noticeCq = s.noticeCq := rfl
@[simp] theorem State.begins_adminWork : (s.begins).adminWork = s.adminWork := rfl
@[simp] theorem State.begins_adminResult : (s.begins).adminResult = s.adminResult := rfl
@[simp] theorem State.begins_waiting : (s.begins).waiting = s.waiting := rfl
@[simp] theorem State.begins_ready : (s.begins).ready = s.ready := rfl
@[simp] theorem State.begins_quRead : (s.begins).quRead = s.quRead := rfl
@[simp] theorem State.begins_quWrites : (s.begins).quWrites = s.quWrites := rfl
@[simp] theorem State.begins_adRead : (s.begins).adRead = s.adRead := rfl
@[simp] theorem State.begins_adWrite : (s.begins).adWrite = s.adWrite := rfl
@[simp] theorem State.begins_nuWrite : (s.begins).nuWrite = s.nuWrite := rfl
@[simp] theorem State.begins_answer : (s.begins).answer = s.answer := rfl
@[simp] theorem State.begins_pending : (s.begins).pending = s.pending := rfl
@[simp] theorem State.begins_sched (k : LineId) : (s.begins).sched k = s.sched k := rfl
@[simp] theorem State.begins_node (k : NodeId) : (s.begins).node k = s.node k := rfl
@[simp] theorem State.begins_slot (k : SlotId) : (s.begins).slot k = s.slot k := rfl
@[simp] theorem State.begins_poll (k : PollId) : (s.begins).poll k = s.poll k := rfl
@[simp] theorem State.begins_sq (k : SqId) : (s.begins).sq k = s.sq k := rfl
@[simp] theorem State.begins_cq (k : CqId) : (s.begins).cq k = s.cq k := rfl

@[simp] theorem State.putResult_ctl (d : AdminDone) : (s.putResult d).ctl = s.ctl := rfl
@[simp] theorem State.putResult_fatalCause (d : AdminDone) : (s.putResult d).fatalCause = s.fatalCause := rfl
@[simp] theorem State.putResult_configError (d : AdminDone) : (s.putResult d).configError = s.configError := rfl
@[simp] theorem State.putResult_asqBase (d : AdminDone) : (s.putResult d).asqBase = s.asqBase := rfl
@[simp] theorem State.putResult_acqBase (d : AdminDone) : (s.putResult d).acqBase = s.acqBase := rfl
@[simp] theorem State.putResult_adminSqSize (d : AdminDone) : (s.putResult d).adminSqSize = s.adminSqSize := rfl
@[simp] theorem State.putResult_adminCqSize (d : AdminDone) : (s.putResult d).adminCqSize = s.adminCqSize := rfl
@[simp] theorem State.putResult_fatalIrq (d : AdminDone) : (s.putResult d).fatalIrq = s.fatalIrq := rfl
@[simp] theorem State.putResult_thirds (d : AdminDone) : (s.putResult d).thirds = s.thirds := rfl
@[simp] theorem State.putResult_ms (d : AdminDone) : (s.putResult d).ms = s.ms := rfl
@[simp] theorem State.putResult_lines (d : AdminDone) : (s.putResult d).lines = s.lines := rfl
@[simp] theorem State.putResult_scheds (d : AdminDone) : (s.putResult d).scheds = s.scheds := rfl
@[simp] theorem State.putResult_nodes (d : AdminDone) : (s.putResult d).nodes = s.nodes := rfl
@[simp] theorem State.putResult_slots (d : AdminDone) : (s.putResult d).slots = s.slots := rfl
@[simp] theorem State.putResult_polls (d : AdminDone) : (s.putResult d).polls = s.polls := rfl
@[simp] theorem State.putResult_sqs (d : AdminDone) : (s.putResult d).sqs = s.sqs := rfl
@[simp] theorem State.putResult_fetch (d : AdminDone) : (s.putResult d).fetch = s.fetch := rfl
@[simp] theorem State.putResult_fetchPosU (d : AdminDone) : (s.putResult d).fetchPosU = s.fetchPosU := rfl
@[simp] theorem State.putResult_fetchPosN (d : AdminDone) : (s.putResult d).fetchPosN = s.fetchPosN := rfl
@[simp] theorem State.putResult_writer (d : AdminDone) : (s.putResult d).writer = s.writer := rfl
@[simp] theorem State.putResult_writerPos (d : AdminDone) : (s.putResult d).writerPos = s.writerPos := rfl
@[simp] theorem State.putResult_noticeList (d : AdminDone) : (s.putResult d).noticeList = s.noticeList := rfl
@[simp] theorem State.putResult_noticeCq (d : AdminDone) : (s.putResult d).noticeCq = s.noticeCq := rfl
@[simp] theorem State.putResult_adminWork (d : AdminDone) : (s.putResult d).adminWork = s.adminWork := rfl
@[simp] theorem State.putResult_waiting (d : AdminDone) : (s.putResult d).waiting = s.waiting := rfl
@[simp] theorem State.putResult_ready (d : AdminDone) : (s.putResult d).ready = s.ready := rfl
@[simp] theorem State.putResult_quRead (d : AdminDone) : (s.putResult d).quRead = s.quRead := rfl
@[simp] theorem State.putResult_quWrites (d : AdminDone) : (s.putResult d).quWrites = s.quWrites := rfl
@[simp] theorem State.putResult_adRead (d : AdminDone) : (s.putResult d).adRead = s.adRead := rfl
@[simp] theorem State.putResult_adWrite (d : AdminDone) : (s.putResult d).adWrite = s.adWrite := rfl
@[simp] theorem State.putResult_nuWrite (d : AdminDone) : (s.putResult d).nuWrite = s.nuWrite := rfl
@[simp] theorem State.putResult_answer (d : AdminDone) : (s.putResult d).answer = s.answer := rfl
@[simp] theorem State.putResult_pending (d : AdminDone) : (s.putResult d).pending = s.pending := rfl
@[simp] theorem State.putResult_line (d : AdminDone) (k : LineId) : (s.putResult d).line k = s.line k := rfl
@[simp] theorem State.putResult_sched (d : AdminDone) (k : LineId) : (s.putResult d).sched k = s.sched k := rfl
@[simp] theorem State.putResult_node (d : AdminDone) (k : NodeId) : (s.putResult d).node k = s.node k := rfl
@[simp] theorem State.putResult_slot (d : AdminDone) (k : SlotId) : (s.putResult d).slot k = s.slot k := rfl
@[simp] theorem State.putResult_poll (d : AdminDone) (k : PollId) : (s.putResult d).poll k = s.poll k := rfl
@[simp] theorem State.putResult_sq (d : AdminDone) (k : SqId) : (s.putResult d).sq k = s.sq k := rfl

end Sys2Proof.Machine
end

