-- ==== Sys2Proof/Laws/Ops.lean ====
section
/-! SUPPORT. One lemma for each shared operation that says what it can do: what a search finds, what the pending-notice
list becomes, which fields an operation leaves alone (its `outer` lemma). -/

namespace Sys2Proof.Machine

/-! ### Lists and searches -/

theorem mem_allNodes (n : NodeId) : n ∈ allNodes := List.mem_finRange n
theorem mem_allSlots (i : SlotId) : i ∈ allSlots := List.mem_finRange i
theorem mem_allPolls (p : PollId) : p ∈ allPolls := List.mem_finRange p
theorem mem_allLines (l : LineId) : l ∈ allLines := List.mem_finRange l
theorem mem_allCqs (c : CqId) : c ∈ allCqs := List.mem_finRange c
theorem mem_allSqs (q : SqId) : q ∈ allSqs := List.mem_finRange q

/-- `pickMin` answers an element of the list whose measure is least. -/
theorem pickMin_some {α : Type} {f : α → Nat} {l : List α} {x : α} (h : pickMin f l = some x) :
    x ∈ l ∧ ∀ y ∈ l, f x ≤ f y := by
  induction l generalizing x with
  | nil => simp [pickMin] at h
  | cons a l ih =>
    simp only [pickMin] at h
    cases hp : pickMin f l with
    | none =>
      simp [hp] at h
      subst h
      cases l with
      | nil => simp
      | cons b l =>
        simp only [pickMin] at hp
        split at hp
        · cases hp
        · split at hp <;> cases hp
    | some y =>
      obtain ⟨hm, hl⟩ := ih hp
      simp only [hp] at h
      split at h
      · cases h
        refine ⟨by simp, ?_⟩
        intro z hz
        rcases List.mem_cons.mp hz with rfl | hz
        · exact le_refl _
        · exact le_trans (by assumption) (hl z hz)
      · cases h
        refine ⟨List.mem_cons_of_mem _ hm, ?_⟩
        intro z hz
        rcases List.mem_cons.mp hz with rfl | hz
        · omega
        · exact hl z hz

/-- `pickMin` answers nothing on the empty list alone. -/
theorem pickMin_none {α : Type} {f : α → Nat} {l : List α} (h : pickMin f l = none) : l = [] := by
  cases l with
  | nil => rfl
  | cons a l =>
    simp only [pickMin] at h
    split at h
    · cases h
    · split at h <;> cases h

/-- `findNode` answers an in-use record with the key. -/
theorem State.findNode_some {s : State} {l : LineId} {a : Byte} {n : NodeId} (h : s.findNode l a = some n) :
    ∃ r, s.node n = some r ∧ r.line = l ∧ r.address = a := by
  have h' := List.find?_some h
  cases hn : s.node n with
  | none => simp [hn] at h'
  | some r => exact ⟨r, rfl, by simpa [hn] using h'⟩

/-- `findNode` answers nothing when no in-use record has the key. -/
theorem State.findNode_none {s : State} {l : LineId} {a : Byte} (h : s.findNode l a = none) (n : NodeId) (r : Node)
    (hn : s.node n = some r) : ¬(r.line = l ∧ r.address = a) := by
  have h' := List.find?_eq_none.mp h n (mem_allNodes n)
  simpa [hn] using h'

/-- A record that keeps its key changes no lookup (R41). -/
theorem State.findNode_setNode {s : State} {n : NodeId} {r q : Node} (h : s.node n = some r) (hl : q.line = r.line)
    (ha : q.address = r.address) (l : LineId) (a : Byte) : (s.setNode n (some q)).findNode l a = s.findNode l a := by
  simp only [State.findNode]
  congr 1
  funext m
  by_cases e : n = m
  · subst e; simp [h, hl, ha]
  · simp only [State.node_setNode_ne s e]

/-- Changing an in-use record is setting it. -/
theorem State.modNode_some {s : State} {n : NodeId} {r : Node} (f : Node → Node) (h : s.node n = some r) :
    s.modNode n f = s.setNode n (some (f r)) := by
  simp [State.modNode, h]

/-! The second of two updates of one element stands. -/

@[simp] theorem State.setLine_setLine (s : State) (l : LineId) (x y : Line) : (s.setLine l x).setLine l y = s.setLine l y := by
  simp [State.setLine]
@[simp] theorem State.setNode_setNode (s : State) (n : NodeId) (x y : Option Node) :
    (s.setNode n x).setNode n y = s.setNode n y := by
  simp [State.setNode]
@[simp] theorem State.setSlot_setSlot (s : State) (i : SlotId) (x y : Option Slot) :
    (s.setSlot i x).setSlot i y = s.setSlot i y := by
  simp [State.setSlot]
@[simp] theorem State.setPoll_setPoll (s : State) (p : PollId) (x y : Option Poll) :
    (s.setPoll p x).setPoll p y = s.setPoll p y := by
  simp [State.setPoll]

/-- The slot that a fetch reserves is FREE. -/
theorem State.freeSlot_some {s : State} {i : SlotId} (h : s.freeSlot = some i) : s.slot i = none := by
  have h' := List.find?_some h
  simpa using h'

/-- The slots of a queue. -/
theorem State.mem_slotsOf {s : State} {q : SqId} {i : SlotId} :
    i ∈ s.slotsOf q ↔ ∃ x, s.slot i = some x ∧ x.sq = q := by
  cases h : s.slot i <;> simp [State.slotsOf, mem_allSlots, h]

/-- The entries of a node. -/
theorem State.mem_pollsOfNode {s : State} {n : NodeId} {p : PollId} :
    p ∈ s.pollsOfNode n ↔ ∃ e, s.poll p = some e ∧ e.node = n := by
  cases h : s.poll p <;> simp [State.pollsOfNode, mem_allPolls, h]

/-- A queue that is eligible for a fetch (R126). -/
theorem State.eligible_iff {s : State} {cls : SqClass} {q : SqId} :
    s.eligible cls q = true ↔
      s.ctl = .running ∧ (s.sq q).st = .active ∧ (s.sq q).cls = cls ∧ (s.sq q).head ≠ (s.sq q).tail ∧
        s.occupied q < (s.sq q).quota ∧ s.freeSlot.isSome = true := by
  simp [State.eligible, and_assoc]

/-! ### The pending-notice list (R141 to R143) -/

theorem State.mem_pend {s : State} {x y : Source} : y ∈ (s.pend x).noticeList ↔ y ∈ s.noticeList ∨ y = x := by
  unfold State.pend
  split
  · constructor
    · exact Or.inl
    · rintro (h | rfl) <;> assumption
  · simp

theorem State.nodup_pend {s : State} {x : Source} (h : s.noticeList.Nodup) : (s.pend x).noticeList.Nodup := by
  unfold State.pend
  split
  · exact h
  · rename_i hx
    exact List.nodup_append.mpr ⟨h, List.nodup_singleton x, by rintro a ha b hb rfl; simp at hb; exact hx (hb ▸ ha)⟩

theorem State.nodup_unpend {s : State} {x : Source} (h : s.noticeList.Nodup) : (s.unpend x).noticeList.Nodup :=
  h.filter _

/-! ### What no event of a line, a table or a list changes

`outer` blanks every field that the end of an attempt, a completion, a withdrawal or a closing may change. What is left
are the controller's registers, the fetch engine's and the writer's positions, the notice CQ, the outstanding reads, the
images, and the model's own fields; the timebase is blanked too. -/

def State.outer (s : State) : State :=
  { State.reset with
    ctl := s.ctl, fatalCause := s.fatalCause, configError := s.configError, asqBase := s.asqBase, acqBase := s.acqBase
    adminSqSize := s.adminSqSize, adminCqSize := s.adminCqSize, fatalIrq := s.fatalIrq, fetch := s.fetch
    fetchPosU := s.fetchPosU, fetchPosN := s.fetchPosN, writerPos := s.writerPos, noticeCq := s.noticeCq
    quRead := s.quRead, adRead := s.adRead, adWrite := s.adWrite, nuWrite := s.nuWrite, answer := s.answer
    pending := s.pending }

theorem State.outer_foldl {α : Type} {f : State → α → State} (h : ∀ s x, (f s x).outer = s.outer) (l : List α)
    (s : State) : (l.foldl f s).outer = s.outer := by
  induction l generalizing s with
  | nil => rfl
  | cons a l ih => rw [List.foldl_cons, ih, h]

variable (s : State)

@[simp] theorem State.outer_setLine (l : LineId) (x : Line) : (s.setLine l x).outer = s.outer := rfl
@[simp] theorem State.outer_modLine (l : LineId) (f : Line → Line) : (s.modLine l f).outer = s.outer := rfl
@[simp] theorem State.outer_setSched (l : LineId) (x : Sched) : (s.setSched l x).outer = s.outer := rfl
@[simp] theorem State.outer_modSched (l : LineId) (f : Sched → Sched) : (s.modSched l f).outer = s.outer := rfl
@[simp] theorem State.outer_setNode (n : NodeId) (x : Option Node) : (s.setNode n x).outer = s.outer := rfl
@[simp] theorem State.outer_modNode (n : NodeId) (f : Node → Node) : (s.modNode n f).outer = s.outer := rfl
@[simp] theorem State.outer_setSlot (i : SlotId) (x : Option Slot) : (s.setSlot i x).outer = s.outer := rfl
@[simp] theorem State.outer_modSlot (i : SlotId) (f : Slot → Slot) : (s.modSlot i f).outer = s.outer := rfl
@[simp] theorem State.outer_modTxn (i : SlotId) (f : Txn → Txn) : (s.modTxn i f).outer = s.outer := rfl
@[simp] theorem State.outer_setPoll (p : PollId) (x : Option Poll) : (s.setPoll p x).outer = s.outer := rfl
@[simp] theorem State.outer_modPoll (p : PollId) (f : Poll → Poll) : (s.modPoll p f).outer = s.outer := rfl
@[simp] theorem State.outer_setSq (q : SqId) (x : Sq) : (s.setSq q x).outer = s.outer := rfl
@[simp] theorem State.outer_modSq (q : SqId) (f : Sq → Sq) : (s.modSq q f).outer = s.outer := rfl
@[simp] theorem State.outer_setCq (c : CqId) (x : Cq) : (s.setCq c x).outer = s.outer := rfl
@[simp] theorem State.outer_modCq (c : CqId) (f : Cq → Cq) : (s.modCq c f).outer = s.outer := rfl
@[simp] theorem State.outer_unpend (x : Source) : (s.unpend x).outer = s.outer := rfl
@[simp] theorem State.outer_pushWrite (w : BusWrite) : (s.pushWrite w).outer = s.outer := rfl
@[simp] theorem State.outer_makeReady (x : Source) : (s.makeReady x).outer = s.outer := rfl
@[simp] theorem State.outer_putResult (d : AdminDone) : (s.putResult d).outer = s.outer := rfl
@[simp] theorem State.outer_adminDone (tag : Nat) (st : Status) (v : Nat) (h : Option Health) :
    (s.adminDone tag st v h).outer = s.outer := rfl
@[simp] theorem State.outer_pass (n : Nat) : (s.pass n).outer = s.outer := rfl
@[simp] theorem State.outer_begins : s.begins.outer = s.outer := rfl

@[simp] theorem State.outer_pend (x : Source) : (s.pend x).outer = s.outer := by
  unfold State.pend; split <;> rfl
@[simp] theorem State.outer_pendNode (n : NodeId) : (s.pendNode n).outer = s.outer := by simp [State.pendNode]
@[simp] theorem State.outer_pendSq (q : SqId) (e : QueueErr) : (s.pendSq q e).outer = s.outer := by simp [State.pendSq]
@[simp] theorem State.outer_pendCq (c : CqId) : (s.pendCq c).outer = s.outer := by simp [State.pendCq]
@[simp] theorem State.outer_pendPoll (p : PollId) : (s.pendPoll p).outer = s.outer := by simp [State.pendPoll]
@[simp] theorem State.outer_leaveList (i : SlotId) (t : Txn) : (s.leaveList i t).outer = s.outer := by
  unfold State.leaveList; split
  · split <;> simp
  · simp
@[simp] theorem State.outer_enterHeld (i : SlotId) (r : Settled) : (s.enterHeld i r).outer = s.outer := by
  unfold State.enterHeld; split <;> simp
@[simp] theorem State.outer_complete (i : SlotId) (st : Status) (code : Byte) (turn : Nat) (unk : Bool) :
    (s.complete i st code turn unk).outer = s.outer := by
  unfold State.complete; split <;> simp
@[simp] theorem State.outer_flushPending (st : Status) (i : SlotId) : (s.flushPending st i).outer = s.outer := by
  unfold State.flushPending; split <;> simp
@[simp] theorem State.outer_abortSlot (i : SlotId) : (s.abortSlot i).outer = s.outer := by
  unfold State.abortSlot; split <;> [skip; split] <;> simp
@[simp] theorem State.outer_withdraw (p : PollId) : (s.withdraw p).outer = s.outer := by
  unfold State.withdraw; split
  · rfl
  · dsimp only; split <;> simp
@[simp] theorem State.outer_suspend (p : PollId) : (s.suspend p).outer = s.outer := by
  unfold State.suspend; split <;> [skip; split] <;> simp
@[simp] theorem State.outer_resume (p : PollId) : (s.resume p).outer = s.outer := by simp [State.resume]
@[simp] theorem State.outer_suspendNode (n : NodeId) : (s.suspendNode n).outer = s.outer :=
  State.outer_foldl (fun s p => State.outer_suspend s p) _ s
@[simp] theorem State.outer_suspendLine (l : LineId) : (s.suspendLine l).outer = s.outer :=
  State.outer_foldl (fun s p => State.outer_suspend s p) _ s
@[simp] theorem State.outer_resumeNode (n : NodeId) : (s.resumeNode n).outer = s.outer := by
  unfold State.resumeNode; split
  · rfl
  · split
    · rfl
    · exact State.outer_foldl (fun s p => State.outer_resume s p) _ s
@[simp] theorem State.outer_resumeLine (l : LineId) : (s.resumeLine l).outer = s.outer :=
  State.outer_foldl (fun s p => State.outer_resume s p) _ s
@[simp] theorem State.outer_nodeReport (n : NodeId) (q f : Bool) (rep : Report) :
    (s.nodeReport n q f rep).outer = s.outer := by
  unfold State.nodeReport; split
  · rfl
  · split <;> (dsimp only; split <;> simp)
@[simp] theorem State.outer_offlineFlush (n : NodeId) : (s.offlineFlush n).outer = s.outer := by
  unfold State.offlineFlush; split
  · rfl
  · simp only [State.outer_pendNode, State.outer_suspendNode]
    exact State.outer_foldl (fun s i => State.outer_flushPending s .nodeOffline i) _ s
@[simp] theorem State.outer_zeroSeq (l : LineId) : (s.zeroSeq l).outer = s.outer :=
  State.outer_foldl (fun s _ => State.outer_modNode s _ _) _ s
@[simp] theorem State.outer_answerSlot (i : SlotId) (t : Txn) (rep : Report) : (s.answerSlot i t rep).outer = s.outer := by
  unfold State.answerSlot; dsimp only; split <;> simp
@[simp] theorem State.outer_applyFate (i : SlotId) (t : Txn) (rep : Report) : (s.applyFate i t rep).outer = s.outer := by
  unfold State.applyFate; split <;> simp
@[simp] theorem State.outer_afterBroadcast (t : Txn) (rep : Report) : (s.afterBroadcast t rep).outer = s.outer := by
  unfold State.afterBroadcast; split <;> simp
@[simp] theorem State.outer_slotReport (i : SlotId) (q : Bool) (rep : Report) : (s.slotReport i q rep).outer = s.outer := by
  unfold State.slotReport; split
  · dsimp only; split
    · simp
    · split <;> simp
  · rfl
@[simp] theorem State.outer_pollReport (p : PollId) (q : Bool) (rep : Report) : (s.pollReport p q rep).outer = s.outer := by
  unfold State.pollReport
  split
  · rfl
  · dsimp only; split
    · split <;> simp
    · split
      · simp
      · split <;> split <;> (try split) <;> simp
@[simp] theorem State.outer_probeReport (n : NodeId) (rep : Option Report) : (s.probeReport n rep).outer = s.outer := by
  unfold State.probeReport; split
  · rfl
  · split
    · dsimp only; split
      · simp
      · split <;> simp
    · rfl
@[simp] theorem State.outer_reportTo (a : Attempt) (rep : Report) : (s.reportTo a rep).outer = s.outer := by
  unfold State.reportTo; split <;> simp
@[simp] theorem State.outer_endAttempt (l : LineId) (rep : Report) (d : LineSt) : (s.endAttempt l rep d).outer = s.outer := by
  unfold State.endAttempt; split <;> simp
@[simp] theorem State.outer_cutShort (a : Attempt) (b : Bool) : (s.cutShort a b).outer = s.outer := by
  unfold State.cutShort; split
  · split <;> simp
  · simp
  · split
    · rfl
    · split <;> simp
@[simp] theorem State.outer_sqAbsent (q : SqId) : (s.sqAbsent q).outer = s.outer := by simp [State.sqAbsent]
@[simp] theorem State.outer_cqAbsent (c : CqId) : (s.cqAbsent c).outer = s.outer := by simp [State.cqAbsent]
@[simp] theorem State.outer_lineOff (l : LineId) : (s.lineOff l).outer = s.outer := by simp [State.lineOff]
@[simp] theorem State.outer_nodeVacant (n : NodeId) : (s.nodeVacant n).outer = s.outer := by simp [State.nodeVacant]
@[simp] theorem State.outer_pollEmpty (p : PollId) : (s.pollEmpty p).outer = s.outer := rfl
@[simp] theorem State.outer_closeObj (x : Source) : (s.closeObj x).outer = s.outer := by
  cases x <;> simp only [State.closeObj] <;> split <;> simp
@[simp] theorem State.outer_closeWaiting : s.closeWaiting.outer = s.outer :=
  State.outer_foldl (fun s x => State.outer_closeObj s x) _ s
@[simp] theorem State.outer_closeAbort : s.closeAbort.outer = s.outer := by
  unfold State.closeAbort; split
  · dsimp only; split
    · simp
    · rfl
  · rfl
@[simp] theorem State.outer_readyResult : s.readyResult.outer = s.outer := by
  unfold State.readyResult; split
  · split
    · rw [State.outer_putResult]; rfl
    · rfl
  · rfl
@[simp] theorem State.outer_closing : s.closing.outer = s.outer := by
  unfold State.closing; split <;> simp

@[simp] theorem State.outer_expire (i : SlotId) : (s.expire i).outer = s.outer := by
  unfold State.expire; split <;> simp
@[simp] theorem State.outer_deadlineEnds (i : SlotId) : (s.deadlineEnds i).outer = s.outer := by
  unfold State.deadlineEnds; split
  · split <;> simp
  · rfl
@[simp] theorem State.outer_holdOffEnds (n : NodeId) : (s.holdOffEnds n).outer = s.outer := by
  unfold State.holdOffEnds; split
  · split <;> simp
  · rfl
@[simp] theorem State.outer_probeFallsDue (n : NodeId) : (s.probeFallsDue n).outer = s.outer := by
  unfold State.probeFallsDue; split
  · split <;> simp
  · rfl
@[simp] theorem State.outer_promoteNode (l : LineId) (n : NodeId) : (s.promoteNode l n).outer = s.outer := by
  unfold State.promoteNode; split
  · split <;> simp
  · rfl
@[simp] theorem State.outer_promote (l : LineId) : (s.promote l).outer = s.outer :=
  State.outer_foldl (fun s n => State.outer_promoteNode s l n) _ s
@[simp] theorem State.outer_periodEnds (p : PollId) : (s.periodEnds p).outer = s.outer := by
  unfold State.periodEnds; split
  · split <;> simp
  · rfl
@[simp] theorem State.outer_aggregatorEnds (c : CqId) : (s.aggregatorEnds c).outer = s.outer := by
  unfold State.aggregatorEnds; split
  · split <;> simp
  · rfl
@[simp] theorem State.outer_takeExpiries : s.takeExpiries.outer = s.outer := by
  unfold State.takeExpiries
  dsimp only
  rw [State.outer_foldl State.outer_aggregatorEnds, State.outer_foldl State.outer_periodEnds,
    State.outer_foldl State.outer_probeFallsDue, State.outer_foldl State.outer_holdOffEnds,
    State.outer_foldl State.outer_deadlineEnds]

/-! ### Every line at once -/

@[simp] theorem State.line_begins (l : LineId) : s.begins.line l = (s.line l).begins := by
  revert l; simp [State.begins, State.line, Fin.forall_fin_succ]
@[simp] theorem State.line_pass (n : Nat) (l : LineId) : (s.pass n).line l = (s.line l).pass n := by
  revert l; simp [State.pass, State.line, Fin.forall_fin_succ]

/-- A line that waits in GUARD with an attempt handed over a while ago, or in any other state, is left as it is. -/
theorem Line.begins_of_ne {l : Line} (h : l.st ≠ .guard ∨ l.attempt = none ∨ l.waited ≠ 0 ∨ l.guardReached = false) :
    l.begins = l := by
  rw [Line.begins, if_neg]
  rintro ⟨h1, h2, h3, h4⟩
  rcases h with h | h | h | h <;> simp_all

/-- A line enters OFF at the end of a draining STOP LINE exactly at the four conditions of R37. -/
theorem State.lineOffDue_iff {s : State} {l : LineId} :
    s.lineOffDue l = true ↔
      (s.line l).stopRequested = true ∧ (s.line l).attempt = none ∧
        ((s.line l).st = .idle ∨ (s.line l).st = .guard ∨ (s.line l).st = .settle ∨ (s.line l).st = .fault) ∧
        (s.sched l).lineList = [] ∧ ∀ n r, s.node n = some r → r.line = l → r.pendingList = [] := by
  have st : (s.line l).st.drainable = true ↔
      (s.line l).st = .idle ∨ (s.line l).st = .guard ∨ (s.line l).st = .settle ∨ (s.line l).st = .fault := by
    cases (s.line l).st <;> decide
  have lists : s.listsEmpty l = true ↔
      (s.sched l).lineList = [] ∧ ∀ n r, s.node n = some r → r.line = l → r.pendingList = [] := by
    simp only [State.listsEmpty, Bool.and_eq_true, List.isEmpty_iff, List.all_eq_true, mem_allNodes, true_implies]
    refine and_congr_right' (forall_congr' fun n => ?_)
    rcases s.node n with _ | r
    · simp
    · simp only [Bool.or_eq_true, bne_iff_ne, List.isEmpty_iff, Option.some.injEq, forall_eq']; tauto
  simp only [State.lineOffDue, Bool.and_eq_true, Option.isNone_iff_eq_none, st, lists, and_assoc]

/-- Two states with the same outer part agree in the commands that wait. -/
theorem State.pending_of_outer {s t : State} (h : t.outer = s.outer) : t.pending = s.pending := by
  change t.outer.pending = s.outer.pending; rw [h]

/-- Two states with the same outer part are in the same controller state. -/
theorem State.ctl_of_outer {s t : State} (h : t.outer = s.outer) : t.ctl = s.ctl := by
  change t.outer.ctl = s.outer.ctl; rw [h]

/-- Nothing comes about in a step outside RUNNING, DRAINING and STOPPED. -/
theorem State.closing_of_not_live (h : s.live = false) : s.closing = s := by simp [State.closing, h]

/-- With no command waiting, no ABORT in work and no ready command, nothing comes about. -/
theorem State.closing_quiet (hw : s.waiting = []) (hr : s.ready = [])
    (ha : ∀ tag n l, s.adminWork ≠ some (.abort tag n l)) : s.closing = s := by
  have h1 : s.closeWaiting = s := by simp [State.closeWaiting, hw]
  have h2 : s.closeAbort = s := by
    unfold State.closeAbort
    split
    · rename_i h; exact absurd h (ha _ _ _)
    · rfl
  have h3 : s.readyResult = s := by simp [State.readyResult, hr]
  simp [State.closing, h1, h2, h3]

end Sys2Proof.Machine
end

