-- ==== Sys2Proof/Laws/Admin.lean ====
section
/-! SUPPORT. The admin unit around a command: what taking a record, ending a command, refusing it and waiting do, in the
terms that the statements use. -/

namespace Sys2Proof.Machine

variable (s : State) (r : List Byte)

theorem State.adminReading_of {s : State} (h : s.Reading) : s.adminReading = true := by
  obtain ⟨h1, h2, h3⟩ := h
  cases hr : s.adRead with
  | none => exact absurd hr h2
  | some b => rcases h1 with h1 | h1 <;> simp [State.adminReading, State.working, h1, hr, h3]

/-- With a record read in progress, a command acts in the state in which its record is taken; what comes about
follows. -/
theorem State.take_eq {s : State} (h : s.Reading) (f : State → State) : s.take f = (f s.taken).closing := by
  simp [State.take, State.adminReading_of h]; rfl

/-- With no record read in progress an administrative command changes nothing. -/
theorem State.take_of_not {s : State} (h : s.adminReading = false) (f : State → State) : s.take f = s := by
  simp [State.take, h]

theorem State.finish_eq (st : Status) (v : Nat) (h : Option Health) :
    s.finish r st v h = s.completes (u16At r 2) st v h := rfl
theorem State.fail_eq (st : Status) : s.fail r st = s.completes (u16At r 2) st 0 none := rfl
theorem State.done_eq (v : Nat) : s.done r v = s.completes (u16At r 2) .ok v none := rfl
theorem State.await_eq (x : Source) : s.await r x = s.waits (u16At r 2) x := rfl

/-! ### Taking a record changes SQ0's head and the record read alone -/

@[simp] theorem State.taken_line (l : LineId) : s.taken.line l = s.line l := rfl
@[simp] theorem State.taken_sched (l : LineId) : s.taken.sched l = s.sched l := rfl
@[simp] theorem State.taken_node (n : NodeId) : s.taken.node n = s.node n := rfl
@[simp] theorem State.taken_slot (i : SlotId) : s.taken.slot i = s.slot i := rfl
@[simp] theorem State.taken_poll (p : PollId) : s.taken.poll p = s.poll p := rfl
@[simp] theorem State.taken_cq (c : CqId) : s.taken.cq c = s.cq c := rfl
@[simp] theorem State.taken_writer : s.taken.writer = s.writer := rfl
@[simp] theorem State.taken_noticeCq : s.taken.noticeCq = s.noticeCq := rfl
@[simp] theorem State.taken_findNode (l : LineId) (a : Byte) : s.taken.findNode l a = s.findNode l a := rfl

theorem State.taken_sq {q : SqId} (h : q ≠ 0) : s.taken.sq q = s.sq q := by
  unfold State.taken; rw [State.sq_setSq_ne _ (Ne.symm h)]; rfl

@[simp] theorem State.taken_sq_st (q : SqId) : (s.taken.sq q).st = (s.sq q).st := by
  by_cases h : q = 0
  · subst h; unfold State.taken; simp
  · rw [s.taken_sq h]

@[simp] theorem State.taken_sq_cq (q : SqId) : (s.taken.sq q).cq = (s.sq q).cq := by
  by_cases h : q = 0
  · subst h; unfold State.taken; simp
  · rw [s.taken_sq h]

/-! ### Numbers as lines, queues and entries -/

theorem asLine_of_lt {n : Nat} (h : n < 4) : asLine n = some ⟨n, h⟩ := by simp [asLine, h]
theorem asLine_of_not {n : Nat} (h : ¬n < 4) : asLine n = none := by simp [asLine, h]
theorem asCq_of_lt {n : Nat} (h : n < 4) : asCq n = some ⟨n, h⟩ := by simp [asCq, h]
theorem asCq_of_not {n : Nat} (h : ¬n < 4) : asCq n = none := by simp [asCq, h]
theorem asSq_of_lt {n : Nat} (h : n < 8) : asSq n = some ⟨n, h⟩ := by simp [asSq, h]
theorem asSq_of_not {n : Nat} (h : ¬n < 8) : asSq n = none := by simp [asSq, h]
theorem asPoll_of_lt {n : Nat} (h : n < 64) : asPoll n = some ⟨n, h⟩ := by simp [asPoll, h]
theorem asPoll_of_not {n : Nat} (h : ¬n < 64) : asPoll n = none := by simp [asPoll, h]

theorem sizeOk_false (n : Nat) : (sizeOk n = false) = ¬(2 ≤ n ∧ n ≤ 4096) := by simp [sizeOk]
theorem aligned_false (k : Nat) (w : Word) : (aligned k w = false) = (w.toNat % k ≠ 0) := by simp [aligned]

/-- A 16-bit field is below 65536. -/
theorem u16At_lt (k : Nat) : u16At r k < 65536 := by
  have h1 := (byteAt r k).isLt
  have h2 := (byteAt r (k + 1)).isLt
  simp only [u16At]; omega

/-! ### Target accesses -/

theorem exec_regWrite (o : Nat) (w : Word) (h : o < 32) (h4 : o % 4 = 0) :
    exec (regWrite o w) s = .next (s.writeReg o w).accepted := by
  simp only [exec, regWrite, execRegisterWrite, State.access]
  rw [if_neg (by omega), if_neg (by simp [h4])]; rfl

theorem exec_regRead (o : Nat) (h : o < 32) (h4 : o % 4 = 0) :
    exec (regRead o) s = .next { s with answer := .value (s.readReg o) } := by
  simp only [exec, regRead, execRegisterWrite, State.access]
  rw [if_neg (by omega), if_neg (by simp [h4])]; rfl

/-! ### Time that has come -/

theorem msReached_self (w : Word) : msReached w w = true := by simp [msReached]

theorem State.live_of {s : State} (h : s.ctl = .running ∨ s.ctl = .draining ∨ s.ctl = .stopped) : s.live = true := by
  rcases h with h | h | h <;> simp [State.live, h]

end Sys2Proof.Machine
end

