-- ==== Sys2Proof/Laws/PerInstr.lean ====
section
/-! SUPPORT. The family Recorded, one lemma per command: a well-formed command that carries an administrative record is
the command that its record is sorted to (R155, R187). -/

namespace Sys2Proof.Laws.Recorded

open Sys2Proof.Machine

/-- A well-formed command with a record is what the record is sorted to. -/
def Statement (i : Instr) : Prop := i.wellFormed = true → ∀ r, i.adminRecord = some r → decodeAdmin r = i

/-- The opcode of a record that `recordOf` accepts. -/
theorem opcode_of {op : Byte} {r : List Byte} (h : recordOf op r = true) : recOpcode r = op := by
  simp only [recordOf, Bool.and_eq_true, beq_iff_eq] at h
  exact h.2

theorem powerOn : Statement .powerOn := by
  rintro _ _ ⟨⟩

theorem resetRequest : Statement .resetRequest := by
  rintro _ _ ⟨⟩

theorem enableRequest : Statement .enableRequest := by
  rintro _ _ ⟨⟩

theorem drainRequest : Statement .drainRequest := by
  rintro _ _ ⟨⟩

theorem post (value : Word) : Statement (.post value) := by
  rintro _ _ ⟨⟩

theorem release (value : Word) : Statement (.release value) := by
  rintro _ _ ⟨⟩

theorem causeAcknowledge (value : Word) : Statement (.causeAcknowledge value) := by
  rintro _ _ ⟨⟩

theorem registerWrite (access : Access) : Statement (.registerWrite access) := by
  rintro _ _ ⟨⟩

theorem fetchStart : Statement .fetchStart := by
  rintro _ _ ⟨⟩

theorem fetchRecordReadDone (r : List Byte) : Statement (.fetchRecordReadDone r) := by
  rintro _ _ ⟨⟩

theorem fetchDataReadDone (bytes : List Byte) : Statement (.fetchDataReadDone bytes) := by
  rintro _ _ ⟨⟩

theorem fetchReadError : Statement .fetchReadError := by
  rintro _ _ ⟨⟩

theorem adminFetchStart : Statement .adminFetchStart := by
  rintro _ _ ⟨⟩

theorem adminReadError : Statement .adminReadError := by
  rintro _ _ ⟨⟩

theorem adminInvalidOpcode (r : List Byte) : Statement (.adminInvalidOpcode r) := by
  rintro h _ ⟨⟩
  simp only [Instr.wellFormed, Bool.and_eq_true, opcodeUnknown, decide_eq_true_eq] at h
  unfold decodeAdmin
  split <;> first | rfl | (exfalso; omega)

theorem createCq (r : List Byte) : Statement (.createCq r) := by
  rintro h _ ⟨⟩
  simp [decodeAdmin, opcode_of h]

theorem deleteCq (r : List Byte) : Statement (.deleteCq r) := by
  rintro h _ ⟨⟩
  simp [decodeAdmin, opcode_of h]

theorem tuneCq (r : List Byte) : Statement (.tuneCq r) := by
  rintro h _ ⟨⟩
  simp [decodeAdmin, opcode_of h]

theorem createSq (r : List Byte) : Statement (.createSq r) := by
  rintro h _ ⟨⟩
  simp [decodeAdmin, opcode_of h]

theorem deleteSq (r : List Byte) : Statement (.deleteSq r) := by
  rintro h _ ⟨⟩
  simp [decodeAdmin, opcode_of h]

theorem configureLine (r : List Byte) : Statement (.configureLine r) := by
  rintro h _ ⟨⟩
  simp [decodeAdmin, opcode_of h]

theorem startLine (r : List Byte) : Statement (.startLine r) := by
  rintro h _ ⟨⟩
  simp [decodeAdmin, opcode_of h]

theorem stopLineDraining (r : List Byte) : Statement (.stopLineDraining r) := by
  rintro h _ ⟨⟩
  simp only [Instr.wellFormed, Bool.and_eq_true, bne_iff_ne] at h
  simp_all [decodeAdmin, recordOf]

theorem stopLineAborting (r : List Byte) : Statement (.stopLineAborting r) := by
  rintro h _ ⟨⟩
  simp only [Instr.wellFormed, Bool.and_eq_true, beq_iff_eq] at h
  simp_all [decodeAdmin, recordOf]

theorem setNode (r : List Byte) : Statement (.setNode r) := by
  rintro h _ ⟨⟩
  simp [decodeAdmin, opcode_of h]

theorem removeNode (r : List Byte) : Statement (.removeNode r) := by
  rintro h _ ⟨⟩
  simp [decodeAdmin, opcode_of h]

theorem readNode (r : List Byte) : Statement (.readNode r) := by
  rintro h _ ⟨⟩
  simp [decodeAdmin, opcode_of h]

theorem addPoll (r : List Byte) : Statement (.addPoll r) := by
  rintro h _ ⟨⟩
  simp [decodeAdmin, opcode_of h]

theorem removePoll (r : List Byte) : Statement (.removePoll r) := by
  rintro h _ ⟨⟩
  simp [decodeAdmin, opcode_of h]

theorem readPoll (r : List Byte) : Statement (.readPoll r) := by
  rintro h _ ⟨⟩
  simp [decodeAdmin, opcode_of h]

theorem abortBySqAndTag (r : List Byte) : Statement (.abortBySqAndTag r) := by
  rintro h _ ⟨⟩
  simp only [Instr.wellFormed, Bool.and_eq_true, bne_iff_ne] at h
  simp_all [decodeAdmin, recordOf]

theorem abortByNode (r : List Byte) : Statement (.abortByNode r) := by
  rintro h _ ⟨⟩
  simp only [Instr.wellFormed, Bool.and_eq_true, beq_iff_eq] at h
  simp_all [decodeAdmin, recordOf]

theorem abortByLine (r : List Byte) : Statement (.abortByLine r) := by
  rintro h _ ⟨⟩
  simp only [Instr.wellFormed, Bool.and_eq_true, beq_iff_eq] at h
  simp_all [decodeAdmin, recordOf]

theorem setNoticeQueue (r : List Byte) : Statement (.setNoticeQueue r) := by
  rintro h _ ⟨⟩
  simp [decodeAdmin, opcode_of h]

theorem addPollDataReadDone (answer : ReadAnswer) : Statement (.addPollDataReadDone answer) := by
  rintro _ _ ⟨⟩

theorem readNodeImageWriteDone (answer : WriteAnswer) : Statement (.readNodeImageWriteDone answer) := by
  rintro _ _ ⟨⟩

theorem readPollImageWriteDone (answer : WriteAnswer) : Statement (.readPollImageWriteDone answer) := by
  rintro _ _ ⟨⟩

theorem abortComplete : Statement .abortComplete := by
  rintro _ _ ⟨⟩

theorem readyCommandResult : Statement .readyCommandResult := by
  rintro _ _ ⟨⟩

theorem writerBeginEntry : Statement .writerBeginEntry := by
  rintro _ _ ⟨⟩

theorem pollDataWriteDone (answer : WriteAnswer) : Statement (.pollDataWriteDone answer) := by
  rintro _ _ ⟨⟩

theorem entryWriteDone : Statement .entryWriteDone := by
  rintro _ _ ⟨⟩

theorem entryWriteError : Statement .entryWriteError := by
  rintro _ _ ⟨⟩

theorem replyDataWriteDone (answer : WriteAnswer) : Statement (.replyDataWriteDone answer) := by
  rintro _ _ ⟨⟩

theorem schedulerChoice (line : LineId) : Statement (.schedulerChoice line) := by
  rintro _ _ ⟨⟩

theorem startBitInIdle (line : LineId) : Statement (.startBitInIdle line) := by
  rintro _ _ ⟨⟩

theorem characterReceived (line : LineId) (byte : Byte) (last : CharEnd) :
    Statement (.characterReceived line byte last) := by
  rintro _ _ ⟨⟩

theorem characterSent (line : LineId) (echo : Echo) : Statement (.characterSent line echo) := by
  rintro _ _ ⟨⟩

theorem missingStopBit (line : LineId) : Statement (.missingStopBit line) := by
  rintro _ _ ⟨⟩

theorem guardTimeReached (line : LineId) : Statement (.guardTimeReached line) := by
  rintro _ _ ⟨⟩

theorem guardWaitBoundReached (line : LineId) : Statement (.guardWaitBoundReached line) := by
  rintro _ _ ⟨⟩

theorem gapLimitPassed (line : LineId) : Statement (.gapLimitPassed line) := by
  rintro _ _ ⟨⟩

theorem responseTimeout (line : LineId) : Statement (.responseTimeout line) := by
  rintro _ _ ⟨⟩

theorem breakDetected (line : LineId) : Statement (.breakDetected line) := by
  rintro _ _ ⟨⟩

theorem faultRecovery (line : LineId) : Statement (.faultRecovery line) := by
  rintro _ _ ⟨⟩

theorem broadcastQuietExpired (line : LineId) : Statement (.broadcastQuietExpired line) := by
  rintro _ _ ⟨⟩

theorem deadlineExpired (slot : SlotId) : Statement (.deadlineExpired slot) := by
  rintro _ _ ⟨⟩

theorem holdOffEnd (node : NodeId) : Statement (.holdOffEnd node) := by
  rintro _ _ ⟨⟩

theorem probeDue (node : NodeId) : Statement (.probeDue node) := by
  rintro _ _ ⟨⟩

theorem probePromoted (node : NodeId) : Statement (.probePromoted node) := by
  rintro _ _ ⟨⟩

theorem periodExpiry (poll : PollId) : Statement (.periodExpiry poll) := by
  rintro _ _ ⟨⟩

theorem aggregatorTimerExpired (cq : CqId) : Statement (.aggregatorTimerExpired cq) := by
  rintro _ _ ⟨⟩

theorem lineEntersOff (line : LineId) : Statement (.lineEntersOff line) := by
  rintro _ _ ⟨⟩

theorem controllerStopped : Statement .controllerStopped := by
  rintro _ _ ⟨⟩

theorem nodeRecordVacant (node : NodeId) : Statement (.nodeRecordVacant node) := by
  rintro _ _ ⟨⟩

theorem pollEntryEmpty (poll : PollId) : Statement (.pollEntryEmpty poll) := by
  rintro _ _ ⟨⟩

theorem sqBecomesAbsent (sq : SqId) : Statement (.sqBecomesAbsent sq) := by
  rintro _ _ ⟨⟩

theorem cqBecomesAbsent (cq : CqId) : Statement (.cqBecomesAbsent cq) := by
  rintro _ _ ⟨⟩

end Sys2Proof.Laws.Recorded
end

