-- ==== Sys2Proof/Laws/Tables.lean ====
section
/-! SUPPORT. What the shared operations do to the slots, the lines and the submission queues: a completion changes its own
slot alone, and the end of an attempt changes no line. -/

namespace Sys2Proof.Machine

variable (s : State)

/-! ### Slots -/

theorem State.slot_modSlot (i j : SlotId) (f : Slot → Slot) :
    (s.modSlot i f).slot j = if i = j then (s.slot i).map f else s.slot j := by
  unfold State.modSlot; exact State.slot_setSlot _ _ _ _

theorem State.slot_modTxn (i j : SlotId) (f : Txn → Txn) :
    (s.modTxn i f).slot j = if i = j then (s.slot i).map (fun x => { x with txn := x.txn.map f }) else s.slot j := by
  unfold State.modTxn; exact State.slot_modSlot _ _ _ _

@[simp] theorem State.slots_leaveList (i : SlotId) (t : Txn) : (s.leaveList i t).slots = s.slots := by
  unfold State.leaveList
  repeat' split
  all_goals rfl

@[simp] theorem State.slot_leaveList (i : SlotId) (t : Txn) (j : SlotId) : (s.leaveList i t).slot j = s.slot j := by
  simp only [State.slot, State.slots_leaveList]

/-- A slot that enters HELD keeps all but its state and settled result; every other slot stays. -/
theorem State.slot_enterHeld (i : SlotId) (r : Settled) (j : SlotId) :
    (s.enterHeld i r).slot j =
      if i = j then (s.slot i).map fun x => { x with st := .held, settled := some r } else s.slot j := by
  unfold State.enterHeld
  cases h : s.slot i with
  | none => simp only [Option.map_none]; split <;> simp_all
  | some x => exact State.slot_setSlot _ _ _ _

/-- A completion leaves every other slot as it was. -/
theorem State.slot_complete_ne {i j : SlotId} (h : i ≠ j) (st : Status) (code : Byte) (turn : Nat) (unk : Bool) :
    (s.complete i st code turn unk).slot j = s.slot j := by
  unfold State.complete; split
  · rw [State.slot_enterHeld, if_neg h, State.slot_leaveList]
  · rfl

/-- A slot that completes keeps its source queue. -/
theorem State.slotSq_complete (i j : SlotId) (st : Status) (code : Byte) (turn : Nat) (unk : Bool) :
    ((s.complete i st code turn unk).slot j).map (·.sq) = (s.slot j).map (·.sq) := by
  unfold State.complete; split
  · rw [State.slot_enterHeld]; split
    · subst_vars; rw [State.slot_leaveList, Option.map_map]; rfl
    · rw [State.slot_leaveList]
  · rfl

/-- A slot that an abort reaches keeps its source queue. -/
theorem State.slotSq_abortSlot (i j : SlotId) : ((s.abortSlot i).slot j).map (·.sq) = (s.slot j).map (·.sq) := by
  unfold State.abortSlot; split
  · exact s.slotSq_complete _ _ _ _ _ _
  · split
    · rw [State.slot_modTxn]; split
      · subst_vars; rw [Option.map_map]; rfl
      · rfl
    · rfl

/-! ### Submission queues -/

@[simp] theorem State.sqs_leaveList (i : SlotId) (t : Txn) : (s.leaveList i t).sqs = s.sqs := by
  unfold State.leaveList
  repeat' split
  all_goals rfl

@[simp] theorem State.sqs_enterHeld (i : SlotId) (r : Settled) : (s.enterHeld i r).sqs = s.sqs := by
  unfold State.enterHeld; split <;> rfl

@[simp] theorem State.sqs_complete (i : SlotId) (st : Status) (code : Byte) (turn : Nat) (unk : Bool) :
    (s.complete i st code turn unk).sqs = s.sqs := by
  unfold State.complete; split <;> simp

@[simp] theorem State.sqs_abortSlot (i : SlotId) : (s.abortSlot i).sqs = s.sqs := by
  unfold State.abortSlot; split
  · simp
  · split <;> rfl

/-! ### Lines -/

theorem State.lines_foldl {α : Type} {f : State → α → State} (h : ∀ s x, (f s x).lines = s.lines) (l : List α)
    (s : State) : (l.foldl f s).lines = s.lines := by
  induction l generalizing s with
  | nil => rfl
  | cons a l ih => rw [List.foldl_cons, ih, h]

@[simp] theorem State.lines_pend (x : Source) : (s.pend x).lines = s.lines := by unfold State.pend; split <;> rfl
@[simp] theorem State.lines_pendNode (n : NodeId) : (s.pendNode n).lines = s.lines := by simp [State.pendNode]
@[simp] theorem State.lines_pendPoll (p : PollId) : (s.pendPoll p).lines = s.lines := by simp [State.pendPoll]
@[simp] theorem State.lines_leaveList (i : SlotId) (t : Txn) : (s.leaveList i t).lines = s.lines := by
  unfold State.leaveList
  repeat' split
  all_goals rfl
@[simp] theorem State.lines_enterHeld (i : SlotId) (r : Settled) : (s.enterHeld i r).lines = s.lines := by
  unfold State.enterHeld; split <;> rfl
@[simp] theorem State.lines_complete (i : SlotId) (st : Status) (code : Byte) (turn : Nat) (unk : Bool) :
    (s.complete i st code turn unk).lines = s.lines := by
  unfold State.complete; split <;> simp
@[simp] theorem State.lines_flushPending (st : Status) (i : SlotId) : (s.flushPending st i).lines = s.lines := by
  unfold State.flushPending; split <;> simp
@[simp] theorem State.lines_abortSlot (i : SlotId) : (s.abortSlot i).lines = s.lines := by
  unfold State.abortSlot; split
  · simp
  · split <;> rfl
@[simp] theorem State.lines_withdraw (p : PollId) : (s.withdraw p).lines = s.lines := by
  unfold State.withdraw; split
  · rfl
  · dsimp only; split <;> rfl
@[simp] theorem State.lines_suspend (p : PollId) : (s.suspend p).lines = s.lines := by
  unfold State.suspend; split
  · rfl
  · split
    · exact s.lines_withdraw p
    · rfl
@[simp] theorem State.lines_suspendNode (n : NodeId) : (s.suspendNode n).lines = s.lines :=
  State.lines_foldl (fun s p => s.lines_suspend p) _ s
@[simp] theorem State.lines_suspendLine (l : LineId) : (s.suspendLine l).lines = s.lines :=
  State.lines_foldl (fun s p => s.lines_suspend p) _ s
@[simp] theorem State.lines_resume (p : PollId) : (s.resume p).lines = s.lines := rfl
@[simp] theorem State.lines_resumeNode (n : NodeId) : (s.resumeNode n).lines = s.lines := by
  unfold State.resumeNode; split
  · rfl
  · split
    · rfl
    · exact State.lines_foldl (fun s p => s.lines_resume p) _ s
@[simp] theorem State.lines_resumeLine (l : LineId) : (s.resumeLine l).lines = s.lines :=
  State.lines_foldl (fun s p => s.lines_resume p) _ s
@[simp] theorem State.lines_nodeReport (n : NodeId) (q f : Bool) (rep : Report) :
    (s.nodeReport n q f rep).lines = s.lines := by
  unfold State.nodeReport; split
  · rfl
  · split <;> (dsimp only; split <;> simp)
@[simp] theorem State.lines_offlineFlush (n : NodeId) : (s.offlineFlush n).lines = s.lines := by
  unfold State.offlineFlush; split
  · rfl
  · simp only [State.lines_pendNode, State.lines_suspendNode]
    exact State.lines_foldl (fun s i => s.lines_flushPending .nodeOffline i) _ s
@[simp] theorem State.lines_modNode (n : NodeId) (f : Node → Node) : (s.modNode n f).lines = s.lines := rfl
@[simp] theorem State.lines_zeroSeq (l : LineId) : (s.zeroSeq l).lines = s.lines :=
  State.lines_foldl (fun s _ => s.lines_modNode _ _) _ s
@[simp] theorem State.lines_answerSlot (i : SlotId) (t : Txn) (rep : Report) : (s.answerSlot i t rep).lines = s.lines := by
  unfold State.answerSlot; dsimp only; split
  · simp
  · exact s.lines_leaveList i t
@[simp] theorem State.lines_applyFate (i : SlotId) (t : Txn) (rep : Report) : (s.applyFate i t rep).lines = s.lines := by
  unfold State.applyFate; split
  · simp
  · simp
  · simp
  · rfl
@[simp] theorem State.lines_afterBroadcast (t : Txn) (rep : Report) : (s.afterBroadcast t rep).lines = s.lines := by
  unfold State.afterBroadcast; split <;> simp
@[simp] theorem State.lines_modTxn (i : SlotId) (f : Txn → Txn) : (s.modTxn i f).lines = s.lines := rfl
@[simp] theorem State.lines_slotReport (i : SlotId) (q : Bool) (rep : Report) : (s.slotReport i q rep).lines = s.lines := by
  unfold State.slotReport; split
  · dsimp only; split
    · simp
    · split <;> simp
  · rfl
@[simp] theorem State.lines_pollReport (p : PollId) (q : Bool) (rep : Report) : (s.pollReport p q rep).lines = s.lines := by
  unfold State.pollReport
  split
  · rfl
  · dsimp only; split
    · split <;> simp
    · split
      · simp
      · split <;> split <;> (try split) <;> simp
@[simp] theorem State.lines_probeReport (n : NodeId) (rep : Option Report) : (s.probeReport n rep).lines = s.lines := by
  unfold State.probeReport; split
  · rfl
  · split
    · dsimp only; split
      · rfl
      · split <;> simp
    · rfl

/-- The report of an attempt changes no line. -/
@[simp] theorem State.lines_reportTo (a : Attempt) (rep : Report) : (s.reportTo a rep).lines = s.lines := by
  unfold State.reportTo; split <;> simp

@[simp] theorem State.line_reportTo (a : Attempt) (rep : Report) (l : LineId) : (s.reportTo a rep).line l = s.line l := by
  simp only [State.line, State.lines_reportTo]

/-- The end of an attempt leaves its line without the attempt in the state named. -/
theorem State.line_endAttempt (l : LineId) (rep : Report) (dest : LineSt) (k : LineId) :
    (s.endAttempt l rep dest).line k =
      if l = k ∧ (s.line l).attempt.isSome = true then (s.line l).without dest else s.line k := by
  unfold State.endAttempt
  cases h : (s.line l).attempt with
  | none => simp
  | some a =>
    simp only [State.line_reportTo, State.modLine, State.line_setLine]
    split <;> simp_all

end Sys2Proof.Machine
end

