-- ==== Sys2Proof/Tests/Slice0.lean ====
section
/-! SUPPORT. Tests: the WellFormed smoke test, worked values of the spec, one-step tests, and for every statement with
hypotheses a state and operands that meet them. -/

namespace Sys2Proof.Tests

set_option maxRecDepth 20000
set_option Elab.async false

open Sys2Proof.Machine

/-! ### Small states -/

/-- A 64-byte record with the given bytes and zeros elsewhere. -/
def rec64 (l : List (Nat × Byte)) : List Byte := (List.range 64).map fun k => (l.lookup k).getD 0

/-- The state after a command, or the reset state where there is none. -/
def after (i : Instr) (s : State) : State :=
  match exec i s with
  | .next t => t
  | _ => State.reset

/-- RUNNING, with the admin queues, SQ1 (NORMAL, two records waiting) and SQ2 (URGENT, empty) on CQ1. -/
def base : State :=
  let mk := fun (size tail : Nat) (c : CqId) (cls : SqClass) (quota : Nat) =>
    { Sq.made 0x1000 size c cls quota with tail := tail }
  (((((({ State.reset with ctl := .running }.setSq 0 (mk 4 1 0 .normal 0)).setSq 1 (mk 8 2 1 .normal 4)).setSq 2
    (mk 8 0 1 .urgent 4)).setCq 0 (Cq.made 0x2000 8 false 1 0)).setCq 1 (Cq.made 0x3000 8 true 2 5)).setLine 0
      { Line.offWith LineCfg.default 0 false with st := .idle, guardT := 30 })

/-- A node in service at address 14h of LINE 0. -/
def nd : Node :=
  { line := 0, address := 0x14, health := .online, seq := false, respLimit := 0, retryLimit := 15, offThresh := 0
    failures := 0, openX := none, holdOffEnd := none, nextProbe := none, lastTurn := 0, maxTurn := 0, successes := 0
    silents := 0, pendingList := [5], noticeMark := false, transitions := 0, removal := false, probeDue := false
    promoted := false }

/-- An EXCHANGE of function 20h for that node, and its slot. -/
def ex : Txn :=
  { kind := .exchange, line := 0, address := 0x14, function := 0x20, data := [], busyLimit := 3, retry := none
    deadline := none, buffer := 0x4000, capacity := 48, seq := none, attempts := 0, busies := 0, lastOut := none
    lastHint := none, abortMark := false, latePass := false, detached := false }
def pendingSlot : Slot := { st := .pending, sq := 1, cls := .normal, tag := 0x1234, txn := some ex, settled := none }
/-- The transaction after its first hand-over: SEQ 0 and retry limit 2 fixed. -/
def exOn : Txn := { ex with attempts := 1, seq := some false, retry := some 2 }
def activeSlot : Slot := { pendingSlot with st := .active, txn := some exOn }
def result : Settled :=
  { status := .ok, replyLen := 2, replyCode := 0x20, turn := 300, nodeState := some .online, abortLate := false
    outcomeUnk := false }
def heldSlot : Slot := { activeSlot with st := .held, settled := some result }
def att : Attempt :=
  { owner := .slot 5, address := 0x14, seq := false, function := 0x20, data := [], respLimit := some 1100 }

/-- The EXCHANGE waits in slot 5 on the list of node 3. -/
def waitingWork : State := (base.setNode 3 (some nd)).setSlot 5 (some pendingSlot)
/-- Its attempt is on LINE 0, in a line state. -/
def onLine (st : LineSt) : State :=
  ((base.setNode 3 (some { nd with openX := some (.slot 5) })).setSlot 5 (some activeSlot)).setLine 0
    { Line.offWith LineCfg.default 0 false with st := st, attempt := some att, driver := st == .tx, sinceSent := 400, respT := 400 }
/-- SQ0's record read is outstanding. -/
def reading : State := { base with adRead := some { addr := 0x1000, len := 64 } }

/-- A poll entry of node 3. -/
def poll : Poll :=
  { node := 3, function := 0x21, data := [], period := 50, compare := 3, buffer := 0x5000, st := .active
    nextDue := some 0, due := false, inst := none, running := false, baseline := true, stored := [0x0A, 0, 0x17]
    change := true, lastResult := some .ok, missed := 2, removal := false }
def flight : PollInst := { seq := false, retry := 2, attempts := 1, lastOut := none }

/-- Node 3 OFFLINE with its probe and hold-off end at millisecond 0; slot 5 with its deadline there; poll 63 due there; CQ1's
timer at its delay. -/
def due (st : SlotSt) : State :=
  (((waitingWork.setNode 3 (some { nd with health := .offline, nextProbe := some 0, holdOffEnd := some 0 })).setSlot 5
    (some { pendingSlot with st := st, txn := some { ex with deadline := some 0 } })).setPoll 63 (some poll)).setCq 1
    { base.cq 1 with timer := .running 5 }

/-- Slot 5 is HELD and first on CQ1's held list. -/
def heldWork : State := (waitingWork.setSlot 5 (some heldSlot)).setCq 1 { base.cq 1 with held := [.slot 5] }

/-- The writer's entry in progress on CQ1. -/
def writing (w : EntryWork) : State :=
  { waitingWork.setSlot 5 (some heldSlot) with
    writer := some { cq := 1, work := w }, quWrites := [{ addr := 0x3000, data := [], use := .entry }] }
/-- A notice source at the head of the list, with CQ1 as the notice CQ. -/
def noticed (s : State) (x : Source) : State := { s with noticeCq := 1, noticeList := [x] }

/-! ### WellFormed: each check refuses an ill-formed term -/

theorem test_wf_access_outside : (regWrite 32 0).wellFormed = false := by decide
theorem test_wf_access_inside : (regWrite 28 0).wellFormed = true := by decide
theorem test_wf_short_record : (Instr.fetchRecordReadDone [1, 2]).wellFormed = false := by decide
theorem test_wf_no_data : (Instr.fetchDataReadDone []).wellFormed = false := by decide
theorem test_wf_data_above_48 : (Instr.fetchDataReadDone (List.replicate 49 0)).wellFormed = false := by decide
theorem test_wf_poll_data_above_16 : (Instr.addPollDataReadDone (.data (List.replicate 17 0))).wellFormed = false := by
  decide
theorem test_wf_opcode : (Instr.createCq (rec64 [(0, 0x81)])).wellFormed = false := by decide
theorem test_wf_record_length : (Instr.createCq [0x80]).wellFormed = false := by decide
theorem test_wf_known_opcode : (Instr.adminInvalidOpcode (rec64 [(0, 0x80)])).wellFormed = false := by decide
theorem test_wf_unknown_opcode : (Instr.adminInvalidOpcode (rec64 [(0, 0x7F)])).wellFormed = true := by decide
theorem test_wf_stop_form : (Instr.stopLineDraining (rec64 [(0, 0x87), (1, 1)])).wellFormed = false := by decide
theorem test_wf_abort_line_form : (Instr.stopLineAborting (rec64 [(0, 0x87)])).wellFormed = false := by decide
theorem test_wf_abort_form : (Instr.abortBySqAndTag (rec64 [(0, 0x8E), (1, 2)])).wellFormed = false := by decide
theorem test_wf_abort_node_form : (Instr.abortByNode (rec64 [(0, 0x8E), (1, 2)])).wellFormed = false := by decide
theorem test_wf_abort_by_line_form : (Instr.abortByLine (rec64 [(0, 0x8E), (1, 1)])).wellFormed = false := by decide
theorem test_wf_admin_sq : (Instr.sqBecomesAbsent 0).wellFormed = false := by decide
theorem test_wf_admin_cq : (Instr.cqBecomesAbsent 0).wellFormed = false := by decide

/-! ### Sorting records (R165, R173, R187) -/

theorem test_sort_create_cq : decodeAdmin (rec64 [(0, 0x80)]) = .createCq (rec64 [(0, 0x80)]) := by decide
theorem test_sort_start_line : decodeAdmin (rec64 [(0, 0x86), (4, 2)]) = .startLine (rec64 [(0, 0x86), (4, 2)]) := by decide
theorem test_sort_stop_aborting :
    decodeAdmin (rec64 [(0, 0x87), (1, 1)]) = .stopLineAborting (rec64 [(0, 0x87), (1, 1)]) := by decide
theorem test_sort_abort_node : decodeAdmin (rec64 [(0, 0x8E), (1, 1)]) = .abortByNode (rec64 [(0, 0x8E), (1, 1)]) := by decide
theorem test_sort_unknown : decodeAdmin (rec64 [(0, 0x90)]) = .adminInvalidOpcode (rec64 [(0, 0x90)]) := by decide

/-! ### Values that the spec gives -/

/-- R10: the check of the nine characters 31h to 39h is 29B1h. -/
theorem test_check_value : frameCheck [0x31, 0x32, 0x33, 0x34, 0x35, 0x36, 0x37, 0x38, 0x39] = 0x29B1#16 := by
  decide +kernel

/-- Sequence 1 of chapter 12: a request of LENGTH 0 is 5 characters. -/
theorem test_request_length : att.frame.length = 5 := by decide +kernel

/-- Sequence 3 of chapter 12, step 7: RELEASE of head 2 with 4 entries unreleased leaves 2. -/
theorem test_release_sequence :
    ((after (.release 0x00010002) (base.setCq 1 { base.cq 1 with size := 4, unreleased := 4 })).cq 1).unreleased = 2 := by
  decide +kernel

/-- Sequence 3, step 4: the fourth position of a ring of four wraps the tail and inverts the phase. -/
theorem test_tail_wraps :
    let s := (writing .notice).setCq 1 { base.cq 1 with size := 4, tail := 3, unreleased := 3 }
    let d := (after .entryWriteDone s).cq 1
    (d.tail, d.unreleased, d.phase) = (0, 4, false) := by decide +kernel

/-- Sequence 1, time 0: T1 is handed over with SEQ 0; the line is in GUARD with it, then in TX at once. -/
theorem test_hand_over :
    let t := after (.schedulerChoice 0) waitingWork
    ((t.line 0).st, (t.node 3).map (·.openX), t.isActive 5) = (.guard, some (some (.slot 5)), true) := by decide +kernel
/-- R21: a hand-over with the guard time reached is in TX before time goes on; one bit time short of it, it is not. -/
theorem test_tx_at_once :
    ∀ p ∈ [(22, LineSt.tx), (21, .guard)],
      (match step ((onLine .guard).modLine 0 fun x => { x with guardT := p.1 }) with
        | .next t => (t.line 0).st
        | _ => .off) = p.2 := by decide +kernel
/-- R19: a character that begins at the instant of the hand-over restarts the guard timer. -/
theorem test_start_bit_at_hand_over :
    let t := after (.startBitInIdle 0) ((onLine .guard).modLine 0 fun x => { x with guardT := 22 })
    ((t.line 0).st, (t.line 0).guardT, (t.line 0).attempt, t.begins.line 0) = (.guard, 0, some att, t.line 0) := by
  decide +kernel

/-- Sequence 1, time 1155: TIMEOUT of an attempt that may be retried; PENDING at the head, the record untouched. -/
theorem test_timeout_retries :
    let t := after (.responseTimeout 0) ((onLine .wait).setLine 0 { (onLine .wait).line 0 with respT := 1100 })
    ((t.line 0).st, t.isPending 5, (t.node 3).map (·.failures)) = (.guard, true, some 0) := by decide +kernel

/-- Sequence 2, time 22: the second silent failure with threshold 2 takes the node OFFLINE and its poll is suspended. -/
theorem test_offline :
    let n := { nd with retryLimit := 0, offThresh := 2, failures := 1, health := .suspect, openX := some (.slot 5) }
    let s := (((onLine .wait).setNode 3 (some n)).setPoll 20 (some poll)).setSlot 5
      (some { activeSlot with txn := some { ex with retry := some 0, attempts := 1, seq := some false } })
    let t := after (.responseTimeout 0) (s.modLine 0 fun x => { x with respT := 1100 })
    ((t.node 3).map (·.health), (t.poll 20).map (·.st), t.noticeList) = (some .offline, some .suspended, [.node 3]) := by
  decide +kernel

/-! ### One step of the other families -/

theorem test_enable_bad_geometry : (after .enableRequest State.reset).configError = true := by decide +kernel
theorem test_enable :
    (after .enableRequest { State.reset with adminSqSize := 2, adminCqSize := 4096 }).ctl = .running := by decide +kernel
theorem test_enable_and_drain_ignored : (after (regWrite 0 3) base).ctl = .running := by decide +kernel
theorem test_narrow_access :
    (after (.registerWrite { write := true, offset := 8, width := .bits16, value := 1 }) base).answer = .busError := by
  decide +kernel
theorem test_bad_post : ((after (.post 0x00010008) base).sq 1).st = .stalled := by decide +kernel
theorem test_bad_release : (after (.release 0x00010001) base).noticeList = [.cq 1] := by decide +kernel
theorem test_urgent_first :
    (after .fetchStart (base.setSq 2 { base.sq 2 with tail := 1 })).fetch.map (·.sq) = some 2 := by decide +kernel
theorem test_create_sq_quota_above_32 :
    (after (.createSq (rec64 [(0, 0x83), (20, 3), (21, 1), (23, 33), (28, 2)])) reading).adminResult.map (·.status) =
      some .invalidField := by decide +kernel
theorem test_create_sq :
    ((after (.createSq (rec64 [(0, 0x83), (20, 3), (21, 1), (22, 1), (23, 32), (28, 2)])) reading).sq 3).cls = .urgent := by
  decide +kernel
theorem test_start_line_running_line :
    (after (.startLine (rec64 [(0, 0x86)])) reading).adminResult.map (·.status) = some .invalidState := by decide +kernel
/-- R153: a REMOVE NODE taken before the draining stop that the aborting stop ends is ready before it. -/
theorem test_ready_in_order_taken :
    let n := { nd with openX := some (.slot 5), removal := true }
    let s := { ((onLine .wait).setNode 3 (some n)) with
      adRead := some { addr := 0x1000, len := 64 }, waiting := [{ tag := 1, obj := .node 3 }, { tag := 2, obj := .line 0 }] }
    let t := after (.stopLineAborting (rec64 [(0, 0x87), (1, 1)])) (s.modLine 0 fun x => { x with stopRequested := true })
    (t.ready.map (·.tag), t.waiting, t.node 3, (t.line 0).st) = ([1, 2], [], none, .off) := by decide +kernel
theorem test_break_counts :
    ((after (.breakDetected 0) ((onLine .wait).modLine 0 fun x => { x with breakT := 220 })).line 0).transitions = 1 := by
  decide +kernel
/-- R18, R29: a character that ends with its first stop bit at space has that bit, the mark bit and data bits 7 and 6 at
space; data bit 5 at mark zeroed the break timer. With every bit at space it is 11, and counts on from there. -/
theorem test_break_timer_in_character :
    let x := fun (b : Byte) (m : Bool) => (after (.characterReceived 0 b { mark := m, stopOk := false }) (onLine .wait)).line 0
    ((x 0x20 false).breakT, (x 0 false).breakT, (x 0 true).breakT, ((x 0x20 false).passBits 1).breakT, (x 0 false).st) =
      (4, 11, 1, 5, .wait) := by decide +kernel
/-- R18, R34, R36: on a wire at space since before START LINE no guard time passes, and 20 character times later the line is in
FAULT with its RESYNC owed; the level outlasts a stop of a line in FAULT. -/
theorem test_start_at_space :
    let s := (after (.startBitInIdle 3) reading)
    let t := after (.startLine (rec64 [(0, 0x86), (4, 3)])) s
    let late := fun k : Nat => t.modLine 3 (·.passBits k)
    let u := after (.breakDetected 3) (late 220)
    ((s.line 3).st, (t.line 3).st, ((after (.guardTimeReached 3) (late 220)).line 3).driver,
      ((after (.breakDetected 3) (late 219)).line 3).st, (u.line 3).st, (u.line 3).resyncOwed, (u.abortLine 3).line 3 |>.space) =
      (.off, .starting, false, .starting, .fault, true, true) := by decide +kernel
/-- R16, R38, R166: a line stopped in TX is OFF at once with its driver enabled to the end of the character being sent; FATAL
releases it at once (R40). -/
theorem test_driver_to_end_of_character :
    let s := (onLine .tx).abortLine 0
    let x := (after (.characterSent 0 (.char 0x14 true true)) s).line 0
    ((s.line 0).st, (s.line 0).driver, x.st, x.driver, ((s.enterFatal .completionWrite).line 0).driver) =
      (.off, true, .off, false, false) := by decide +kernel
/-- R18, R38: a line started meanwhile is not silent before that end. -/
theorem test_started_in_character :
    let s := { (onLine .tx).abortLine 0 with adRead := some { addr := 0x1000, len := 64 } }
    let t := after (.startLine (rec64 [(0, 0x86)])) s
    let x := (after (.characterSent 0 (.char 0x14 true true)) t).line 0
    ((t.line 0).driver, (t.line 0).silent, x.driver, x.silent, x.guardT) = (true, false, false, true, 0) := by decide +kernel
/-- R18: a character sent of which nothing is heard interrupts no silence. -/
theorem test_silent_echo_counts :
    let s := (onLine .tx).modLine 0 fun x => { x with guardT := 30, charT := 11, inChar := true }
    let x := (after (.characterSent 0 .silence) s).line 0
    (x.st, x.guardT, x.gapT) = (.settle, 41, 0) := by decide +kernel
/-- R18, R22: with two stop bits the second one has been counted as silence when the driver is released. -/
theorem test_two_stop_bits :
    let f := byteAt att.frame 4
    let s := (onLine .tx).modLine 0 fun x => { x with txPos := 4, cfg := { x.cfg with stopBits := 2 } }
    let x := (after (.characterSent 0 (.char f false true)) s).line 0
    (x.st, x.driver, x.guardT, x.respT) = (.wait, false, 1, 0) := by decide +kernel
/-- Line 0 to stop, with a settled transaction whose reply data are being written. -/
def drainingData : State :=
  (base.setSlot 5 (some { activeSlot with settled := some result })).modLine 0 fun x => { x with stopRequested := true }
/-- R37: the settled transaction is on no list, and the line enters OFF with its slot ACTIVE; a list that is not empty
keeps the line out of OFF. -/
theorem test_drain_ends :
    let t := drainingData.closeObj (.line 0)
    ((t.line 0).st, t.isActive 5, (waitingWork.modLine 0 fun x => { x with stopRequested := true }).lineOffDue 0) =
      (.off, true, false) := by decide +kernel
theorem test_echo_mismatch :
    ((after (.characterSent 0 (.char 0x15 true true)) (onLine .tx)).line 0).st = .settle := by decide +kernel
theorem test_completion_bytes :
    ((after .writerBeginEntry ((waitingWork.setSlot 5 (some heldSlot)).setCq 1
      { base.cq 1 with held := [.slot 5] })).quWrites.map (·.data)) =
      [[0x34, 0x12, 1, 0, 2, 0x20, 1, 0, 0x2C, 1, 2, 1, 0, 0, 0, 0]] := by decide +kernel
theorem test_idle_tick : (match step base with | .next t => t.thirds | _ => 0) = 0 + 1 := by decide +kernel
/-- R178: a controller that can stop has stopped before time goes on. -/
theorem test_stops_first : (match step { base with ctl := .draining } with | .next t => t.ctl | _ => .off) = .stopped := by
  decide +kernel
/-- R182, R83: the step in which the count reaches a deadline takes it. -/
theorem test_expiry_in_the_tick :
    (match step { waitingWork.modTxn 5 (fun t => { t with deadline := some 1 }) with thirds := 2999 } with
      | .next t => (t.ms, (t.slot 5).map (·.st))
      | _ => (0, none)) = (1, some .held) := by decide +kernel
/-- R65, R68: a refused record's slot holds its fields. -/
theorem test_refused_keeps_fields :
    let r := rec64 [(0, 1), (4, 1), (5, 0x14), (6, 0x20), (9, 15), (16, 8)]
    let t := (waitingWork.setSlot 0 (some (Slot.reserved 1 .normal))).judge 0 1 r []
    ((t.slot 0).bind (·.txn)).map (fun t => (t.line, t.address, t.buffer)) = some (1, 0x14, 8) := by decide +kernel
/-- R119, R188: a POLL_FAULT record carries the copied length at offset 4. -/
theorem test_poll_fault_length : byteAt (pollFaultNotice 63 3 48 true) 4 = 48 := by decide +kernel

/-! ### The hypotheses of the statements are met -/

/-- Each clause: the tick of a running part, the stop of a draining one, one that cannot stop, and nothing reached yet. -/
theorem witness_IdleStepIsATick :
    (State.reset.pending = [] ∧ State.reset.thirds < 3000 ∧ State.reset.ctl ≠ .draining) ∧
      (let s : State := { base with ctl := .draining, thirds := 2999 }
       s.pending = [] ∧ s.thirds < 3000 ∧ s.ctl = .draining ∧ s.stopDue = true) ∧
      (let s : State := { waitingWork with ctl := .draining }
       s.pending = [] ∧ s.thirds < 3000 ∧ s.stopDue = false) ∧
      (let s : State := { due .pending with ms := 0 - 1 }
       s.pending = [] ∧ s.thirds < 2999 ∧ msReached s.ms 0 = false ∧ (s.node 3).bind (·.nextProbe) = some 0 ∧
        poll.nextDue = some 0 ∧ (base.cq 1).delay = 5) ∧
      (∀ g ∈ [21, 22],
        let x := { (onLine .guard).line 0 with guardT := g }
        x.st = .guard ∧ x.attempt ≠ none ∧ x.waited = 0 ∧ x.quietOn = false ∧ x.inChar = false ∧ x.space = false ∧
          x.cfg.guardTime = 22) ∧
      (∀ y ∈ [(true, false), (false, true), (false, false)],
        let x := { base.line 0 with st := .guard, bitPhase := 25, inChar := y.1, space := y.2 }
        (x.bitPhase + 1) / x.cfg.divisor = 1 ∧ x.st ≠ .off ∧ x.attempt = none) := by decide +kernel

theorem quiet_reset : State.reset.Quiet := by
  simp only [State.Quiet, Line.Sane, State.NoWrites]; decide

theorem witness_ControllerStateMoves :
    ∃ s t, s.Quiet ∧ exec .enableRequest s = .next t ∧ t.ctl ≠ s.ctl := by
  refine ⟨{ State.reset with adminSqSize := 2, adminCqSize := 2 }, _, ?_, rfl, ?_⟩
  · simp only [State.Quiet, Line.Sane, State.NoWrites]; decide
  · decide +kernel

theorem witness_EnableAndDrain :
    (waitingWork.ctl = .running ∧ waitingWork.stopDue = false) ∧ (base.ctl = .running ∧ base.stopDue = true) ∧
      State.reset.ctl ≠ .running := by decide +kernel

theorem witness_EntryToStopped :
    (let s : State := { base.setPoll 0 (some { poll with inst := some flight }) with ctl := .draining }
     s.ctl = .draining ∧ (∀ i, s.slot i = none) ∧ (∀ l, (s.line l).st = .idle ∨ (s.line l).st = .off) ∧
      s.adminWork = none ∧ s.adRead = none ∧ s.writer = none ∧
      (s.quWrites = [] ∧ s.adWrite = none ∧ s.nuWrite = none)) ∧ base.ctl ≠ .draining := by decide +kernel

theorem witness_RegisterWindow : (31 < 32) ∧ ((Width.bits8 ≠ .bits32) ∨ 31 % 4 ≠ 0) ∧ (2 % 4 ≠ 0) := by decide

/-- A queue that is eligible; none; and a fetch in progress. -/
theorem witness_FetchStart :
    base.chooseSq = some 1 ∧ base.freeSlot = some 0 ∧ base.fetch = none ∧ State.reset.chooseSq = none ∧
      ({ base with fetch := some { slot := 0, sq := 1, record := none } }).fetch ≠ none := by decide +kernel

/-- A slot reserved for SQ1 and a read outstanding. -/
def fetching (r : Option (List Byte)) : State :=
  { base.setSlot 0 (some (Slot.reserved 1 .normal)) with
    fetch := some { slot := 0, sq := 1, record := r }, quRead := some { addr := 0x1000, len := 64 } }

theorem witness_FetchReads :
    (fetching none).slot 0 = some (Slot.reserved 1 .normal) ∧ (Slot.reserved 1 .normal).st = .fetching ∧
      (fetching none).quRead = some { addr := 0x1000, len := 64 } ∧
      (fetching none).fetch = some { slot := 0, sq := 1, record := none } ∧
      (∀ n ∈ [0x01#8, 0x30#8], byteAt (rec64 [(0, 1), (7, n)]) 0 = 0x01#8 ∧ 1 ≤ (byteAt (rec64 [(0, 1), (7, n)]) 7).toNat ∧
        (byteAt (rec64 [(0, 1), (7, n)]) 7).toNat ≤ 48) ∧
      (∀ n ∈ [0x00#8, 0x31#8], ¬(1 ≤ (byteAt (rec64 [(0, 1), (7, n)]) 7).toNat ∧
        (byteAt (rec64 [(0, 1), (7, n)]) 7).toNat ≤ 48)) ∧
      (fetching (some (rec64 [(0, 1), (7, 1)]))).fetch =
        some { slot := 0, sq := 1, record := some (rec64 [(0, 1), (7, 1)]) } := by decide +kernel

/-- An EXCHANGE for the node at 14h of LINE 0; and the same with another opcode, line or address. -/
def exRec : List (Nat × Byte) := [(0, 1), (5, 0x14), (6, 0x20), (9, 15)]

theorem witness_RefusedRecord :
    (fetching none).slot 0 = some (Slot.reserved 1 .normal) ∧ (Slot.reserved 1 .normal).sq = 1 ∧
      recFieldBad (rec64 [(0, 4)]) = true ∧
      (let r := rec64 ((0, 3) :: exRec)
       recFieldBad r = false ∧ byteAt r 0 = 0x03#8 ∧ waitingWork.node 3 = some nd ∧ nd.line = 0 ∧ nd.address = byteAt r 5) ∧
      (let r := rec64 [(0, 3), (4, 1), (5, 0x14), (9, 15)]
       recFieldBad r = false ∧ byteAt r 0 = 0x03#8 ∧
        (∀ n x, waitingWork.node n = some x → ¬(x.line = 1 ∧ x.address = byteAt r 5)) ∧ (waitingWork.line 1).st = .off) ∧
      (let r := rec64 [(0, 2), (4, 1), (6, 0x20), (9, 15)]
       recFieldBad r = false ∧ byteAt r 0 = 0x02#8 ∧ (waitingWork.line 1).st = .off) ∧
      (let r := rec64 [(0, 1), (4, 1), (5, 0x14), (6, 0x20), (9, 15)]
       recFieldBad r = false ∧ byteAt r 0 = 0x01#8 ∧
        (∀ n x, waitingWork.node n = some x → x.line = 1 → x.address = byteAt r 5 → x.removal = true)) ∧
      (let r := rec64 exRec
       let f := fun (x : Node) => waitingWork.setNode 3 (some x)
       recFieldBad r = false ∧ byteAt r 0 = 0x01#8 ∧
        (f { nd with health := .disabled }).findNode 0 (byteAt r 5) = some 3 ∧
        (f { nd with health := .offline }).findNode 0 (byteAt r 5) = some 3 ∧
        ¬((waitingWork.line 0).st = .off ∨ (waitingWork.line 0).stopRequested = true)) ∧
      ((waitingWork.setLine 0 { waitingWork.line 0 with stopRequested := true }).findNode 0 0x14 = some 3) := by
  decide +kernel

theorem witness_AdmittedExchange :
    let s := (waitingWork.setSlot 0 (some (Slot.reserved 1 .normal)))
    let r := rec64 exRec
    (s.slot 0 = some (Slot.reserved 1 .normal) ∧ recFieldBad r = false ∧ byteAt r 0 = 0x01#8 ∧ (byteAt r 4).toNat = 0 ∧
      s.findNode 0 (byteAt r 5) = some 3 ∧ s.node 3 = some nd ∧ nd.removal = false ∧ nd.health ≠ .disabled ∧
      nd.health ≠ .offline ∧ (s.line 0).st ≠ .off ∧ (s.line 0).stopRequested = false) ∧
    (let r := rec64 [(0, 2), (6, 0x3F), (9, 15)]
     recFieldBad r = false ∧ (byteAt r 4).toNat = 0 ∧ byteAt r 0 = 0x02#8) ∧
    (let r := rec64 [(0, 3), (5, 0xFE), (9, 15)]
     recFieldBad r = false ∧ byteAt r 0 = 0x03#8 ∧
      ∀ n x, s.node n = some x → ¬(x.line = 0 ∧ x.address = byteAt r 5)) := by decide +kernel

theorem witness_AdminFetch :
    (base.ctl = .running ∧ (base.sq 0).st = .active ∧ (base.sq 0).head ≠ (base.sq 0).tail ∧ base.adminWork = none ∧
      base.adminResult = none ∧ base.ready = [] ∧ base.adRead = none) ∧ State.reset.ctl ≠ .running ∧
      State.reset.ctl ≠ .draining := by decide +kernel

/-- The premise of every statement about an administrative command (CqCommands, CreateSq, DeleteQueues,
LineSettingCommands, StopLine, SetNode, RemoveNode, ReadNode, AddPoll, RemoveAndReadPoll, AbortCommand). -/
theorem witness_Reading : reading.Reading := by
  simp only [State.Reading]; decide +kernel

/-- The entries that START LINE and SET NODE resume and that the entry to OFF suspends, on a record of the line, with an
instance in flight that its node's open exchange names, and one that is left. -/
theorem witness_poll_entries :
    (let s := waitingWork.setPoll 63 (some { poll with st := .suspended })
     s.poll 63 = some { poll with st := .suspended } ∧ poll.removal = false ∧ s.node poll.node = some nd ∧ nd.line = 0 ∧
      nd.health = .online ∧ (s.line 0).st ≠ .off) ∧
    (let s := ((waitingWork.setNode 3 (some { nd with openX := some (.poll 63) })).setPoll 63
        (some { poll with inst := some flight })).setPoll 62 (some { poll with st := .faulted })
     s.poll 63 = some { poll with inst := some flight } ∧ poll.st = .active ∧ poll.removal = false ∧
      s.node poll.node = some { nd with openX := some (.poll 63) } ∧ s.poll 62 = some { poll with st := .faulted }) := by
  decide +kernel

theorem witness_StopLine_lists : ∀ i x, waitingWork.slot i = some x → x.st = .pending → x.txn ≠ none := by decide +kernel

/-- What STOP LINE cuts short: a transaction's attempt, one whose result is settled, a probe, a poll instance, a withdrawn
one. -/
theorem witness_StopLine :
    (att.owner = .slot 5 ∧ (onLine .tx).slot 5 = some activeSlot ∧ activeSlot.st = .active ∧ activeSlot.settled = none) ∧
      (heldWork.slot 5 = some heldSlot ∧ heldSlot.st ≠ .active) ∧
      (let s := base.setNode 3 (some { nd with health := .offline })
       ({ att with owner := .probe 3 }).owner = .probe 3 ∧ s.node 3 = some { nd with health := .offline } ∧
        nd.removal = false) ∧
      (let s := waitingWork.setPoll 63 (some { poll with inst := some flight })
       ({ att with owner := .poll 63 }).owner = .poll 63 ∧ s.poll 63 = some { poll with inst := some flight } ∧
        poll.inst = none) := by decide +kernel

theorem witness_DisabledNode :
    waitingWork.KeysUnique ∧ waitingWork.node 3 = some nd ∧ nd.pendingList.Nodup ∧
      ∀ i ∈ nd.pendingList, ∃ x t, waitingWork.slot i = some x ∧ x.txn = some t ∧ t.kind = .exchange ∧ t.line = nd.line ∧
        t.address = nd.address ∧ (x.st = .pending ∨ (x.st = .active ∧ x.settled = none)) := by
  have hp : waitingWork.slot 5 = some pendingSlot := by decide +kernel
  refine ⟨?_, by decide +kernel, by decide, ?_⟩
  rotate_left
  · intro i hi
    obtain rfl : i = 5 := by simpa [nd] using hi
    exact ⟨pendingSlot, ex, hp, rfl, rfl, rfl, rfl, .inl rfl⟩
  have h : ∀ n r, waitingWork.node n = some r → n = 3 := by decide +kernel
  intro n m r q hn hm _ _
  rw [h n r hn, h m q hm]

/-- A command in work with its host access outstanding. -/
def inWork (w : InWork) : State :=
  { waitingWork with
    adminWork := some w, adWrite := some { addr := 0, data := [], use := .image }, adRead := some { addr := 0, len := 16 } }

theorem witness_ReadNode :
    (inWork (.readNode 7 3 .online (some (1, 2, 3)))).adminWork = some (.readNode 7 3 .online (some (1, 2, 3))) ∧
      (inWork (.readNode 7 3 .online none)).adWrite = some { addr := 0, data := [], use := .image } := by decide +kernel

/-- An ADD POLL in work with 16 bytes of request data to read. -/
def np16 : NewPoll := { id := 63, node := 3, function := 0x3B, reqLen := 16, period := 10, compare := 0, buffer := 0 }

theorem witness_AddPoll :
    (inWork (.addPoll 7 np16)).adminWork = some (.addPoll 7 np16) ∧
      (inWork (.addPoll 7 np16)).adRead = some { addr := 0, len := 16 } ∧ (List.replicate 16 (0 : Byte)).length = np16.reqLen := by
  decide +kernel

theorem witness_RemoveAndReadPoll :
    (inWork (.readPoll 7 63 2)).adminWork = some (.readPoll 7 63 2) ∧
      (inWork (.readPoll 7 63 2)).adWrite = some { addr := 0, data := [], use := .image } := by decide +kernel

/-- What an abort and a completion without an answer reach: PENDING, ACTIVE, settled and HELD slots; an EXCHANGE with its
record and without, and a BROADCAST. -/
theorem witness_AbortCommand :
    (waitingWork.slot 5 = some pendingSlot ∧ pendingSlot.txn = some ex ∧ pendingSlot.st = .pending ∧
        waitingWork.findNode ex.line ex.address = some 3 ∧ waitingWork.node 3 = some nd) ∧
      ((onLine .tx).slot 5 = some activeSlot ∧ activeSlot.txn = some exOn ∧ activeSlot.settled = none) ∧
      (heldWork.slot 5 = some heldSlot ∧ heldSlot.txn = some exOn ∧ heldSlot.settled ≠ none) ∧
      (waitingWork.setNode 3 none).findNode ex.line ex.address = none ∧ ({ ex with kind := .broadcast }).kind ≠ .exchange := by
  decide +kernel

theorem witness_AdminCompletions :
    (let s := inWork (.abort 7 1 [5])
     s.ctl = .running ∧ s.adminWork = some (.abort 7 1 [5]) ∧ ∀ i ∈ [(5 : SlotId)], s.isActive i = false) ∧
    (let s : State := { base with ready := [{ tag := 9, obj := .line 3 }] }
     s.ctl = .running ∧ s.adminWork = none ∧ s.adminResult = none ∧ s.adRead = none ∧
      s.ready = [{ tag := 9, obj := .line 3 }]) ∧ State.reset.ctl = .off := by decide +kernel

theorem witness_AdminRecordsSorted :
    (Instr.setNoticeQueue (rec64 [(0, 0x8F)])).wellFormed = true ∧
      (Instr.setNoticeQueue (rec64 [(0, 0x8F)])).adminRecord = some (rec64 [(0, 0x8F)]) ∧ (rec64 []).length = 64 := by decide

theorem witness_WriterBeginsCompletion :
    heldWork.ctl = .running ∧ heldWork.writer = none ∧ heldWork.chooseCq = some 1 ∧ (heldWork.cq 1).held = [.slot 5] ∧
      heldWork.noticeCq ≠ 1 ∧ heldWork.slot 5 = some heldSlot ∧ heldSlot.txn = some exOn ∧
      heldSlot.settled = some result ∧ base.chooseCq = none ∧ (writing .notice).writer ≠ none ∧
      State.reset.ctl ≠ .running ∧ State.reset.ctl ≠ .draining := by decide +kernel
/-- A refused record's slot without a transaction, and the admin result. -/
theorem witness_WriterBeginsCompletion_others :
    (let s := heldWork.setSlot 5 (some { heldSlot with txn := none })
     s.chooseCq = some 1 ∧ (s.cq 1).held = [.slot 5] ∧ s.slot 5 = some { heldSlot with txn := none }) ∧
    (let s := base.putResult { tag := 0xFFFF, status := .ok, value := 127, nodeState := some .unknown }
     s.ctl = .running ∧ s.writer = none ∧ s.chooseCq = some 0 ∧ (s.cq 0).held = [.admin] ∧ s.noticeList = [] ∧
      s.adminResult = some { tag := 0xFFFF, status := .ok, value := 127, nodeState := some .unknown }) := by decide +kernel

theorem witness_WriterBeginsNotice :
    (∀ x ∈ [Source.node 3, .line 3, .sq 7, .cq 1, .cq 3],
      let s := noticed waitingWork x
      s.ctl = .running ∧ s.writer = none ∧ s.chooseCq = some 1 ∧ s.noticeCq = 1 ∧ s.noticeList = [x] ∧
        (s.cq 1).held = []) ∧ waitingWork.node 3 = some nd := by decide +kernel

theorem witness_PollPosting :
    (∀ e ∈ [poll, { poll with stored := [] }, { poll with st := .faulted }],
      let s := noticed (waitingWork.setPoll 63 (some e)) (.poll 63)
      s.ctl = .running ∧ s.writer = none ∧ s.chooseCq = some 1 ∧ s.noticeCq = 1 ∧ s.noticeList = [.poll 63] ∧
        (s.cq 1).held = [] ∧ s.poll 63 = some e) ∧ poll.st ≠ .faulted ∧ poll.stored ≠ [] ∧
    (let s : State := { (writing (.pollData 63 3 .active 3 false)).setPoll 63 (some poll) with
      nuWrite := some { addr := 0x5000, data := [0x0A, 0, 0x17], use := .pollData } }
     s.writer = some { cq := 1, work := .pollData 63 3 .active 3 false } ∧ s.nuWrite ≠ none ∧ s.poll 63 = some poll ∧
      poll.removal = false ∧ (s.setPoll 63 none).poll 63 = none ∧
      (s.setPoll 63 (some { poll with removal := true })).poll 63 = some { poll with removal := true }) := by decide +kernel

/-- The premises of EntryWritten, of each kind of entry, and of EntryRefused. -/
theorem witness_EntryWritten :
    ∀ w ∈ [EntryWork.notice, .completion (.slot 5), .completion .admin],
      (writing w).writer = some { cq := 1, work := w } ∧
        (writing w).quWrites = [{ addr := 0x3000, data := [], use := .entry }] := by decide +kernel

theorem witness_ReplyDataWritten :
    let x : Slot := { activeSlot with settled := some result }
    let s : State := { waitingWork.setSlot 5 (some x) with quWrites := [{ addr := 0, data := [1, 2], use := .reply 5 }] }
    s.quWrites = [{ addr := 0, data := [1, 2], use := .reply 5 }] ∧ s.slot 5 = some x ∧ x.st = .active ∧
      x.txn = some exOn ∧ x.settled = some result := by decide +kernel

/-- Node 3 OFFLINE with its probe due at millisecond 0, some milliseconds later. -/
def probing (ms : Word) : State :=
  { base.setNode 3 (some { nd with health := .offline, pendingList := [], nextProbe := some 0 }) with ms := ms }
/-- Poll 63 of node 3 due, or with an instance in flight that has no attempt on the line. -/
def polling (k : Option PollInst) : State :=
  (base.setNode 3 (some { nd with pendingList := [], openX := if k = none then none else some (.poll 63) })).setPoll 63
    (some { poll with due := k.isNone, inst := k })
/-- A BROADCAST or a DISCOVER on the line list. -/
def broadcasting (k : Kind) : State :=
  (base.setSlot 5 (some { pendingSlot with txn := some { ex with kind := k } })).setSched 0
    { base.sched 0 with lineList := [5] }

/-- The candidate of the waiting EXCHANGE: class 3, at the place of node 3. -/
def cand : Cand := { cls := 3, place := 4, work := .txn 5 }

/-- Each kind of candidate, no candidate, and the lines and controllers that are given nothing. -/
theorem witness_SchedulerOrder :
    waitingWork.choose 0 = some cand ∧ base.choose 0 = none ∧ (State.reset.line 0).st ≠ .idle ∧
      (let s : State := { waitingWork with ctl := .draining }
       cand ∈ s.candidates 0) ∧
      (probing 999).choose 0 = some { cls := 4, place := 3, work := .probe 3 } ∧
      (probing 1000).choose 0 = some { cls := 2, place := 195, work := .probe 3 } ∧
      (polling none).choose 0 = some { cls := 2, place := 259, work := .pollNew 63 } ∧
      (polling (some flight)).choose 0 = some { cls := 2, place := 259, work := .pollAgain 63 } ∧
      (broadcasting .broadcast).choose 0 = some { cls := 3, place := 0, work := .txn 5 } := by decide +kernel

/-- The premises for each kind of work that is handed over. -/
theorem witness_HandsOverExchange :
    (waitingWork.ctl = .running ∧ (waitingWork.line 0).st = .idle ∧ waitingWork.choose 0 = some cand ∧
      cand.work = .txn 5 ∧ waitingWork.slot 5 = some pendingSlot ∧ pendingSlot.txn = some ex ∧ ex.kind = .exchange) ∧
    (∀ k ∈ [Kind.broadcast, .discover], ((broadcasting k).line 0).st = .idle ∧
      ((broadcasting k).choose 0).map (·.work) = some (.txn 5) ∧ k ≠ .exchange) ∧
    (∀ k ∈ [none, some flight], ((polling k).line 0).st = .idle ∧ ((polling k).poll 63).map (·.inst) = some k) ∧
    ((probing 999).line 0).st = .idle ∧ ((probing 1000).line 0).st = .idle := by decide +kernel
theorem witness_HandsOverExchange_promoted :
    (waitingWork.promote 0).findNode ex.line ex.address = some 3 ∧ (waitingWork.promote 0).node 3 = some nd := by
  decide +kernel
theorem witness_HandsOverExchange_poll :
    ∀ k ∈ [none, some flight], (((polling k).promote 0).node 3).isSome = true := by decide +kernel
theorem witness_HandsOverExchange_probe :
    (((probing 999).promote 0).node 3).isSome = true ∧ (((probing 1000).promote 0).node 3).isSome = true := by
  decide +kernel

theorem witness_UnsolicitedCharacters :
    (base.line 3).st = .off ∧ ((onLine .tx).line 0).st = .tx ∧ (base.line 0).st = .idle ∧
      (∀ st ∈ [LineSt.guard, .settle, .fault], ((onLine st).line 0).st = st) ∧
      (∀ ph ∈ [StartPhase.guardWait, .clashed, .quiet, .sending],
        let x := { base.line 0 with st := .starting, phase := ph }
        (base.setLine 0 x).line 0 = x ∧ x.st = .starting) ∧
      (∀ st ∈ [LineSt.off, .starting],
        let x := { base.line 0 with st := st, driver := true }
        (base.setLine 0 x).line 0 = x ∧ x.st = st ∧ x.driver = true ∧ x.phase = .guardWait) := by decide +kernel

/-- A reply to `att`, or something like one, without its last character. -/
def rxLine (f : List Byte) : Line := { (onLine .rx).line 0 with rxBuf := f.dropLast, rxCount := f.length - 1 }

/-- WAIT at and about the response limit; RX before the frame is complete, and at its last character for each class. -/
theorem witness_CharactersOfAReply :
    (∀ t ∈ [0, 1099, 1100, 1111, 1112],
      let x := { (onLine .wait).line 0 with respT := t }
      ((onLine .wait).setLine 0 x).line 0 = x ∧ x.st = .wait ∧ x.attempt = some att ∧ att.respLimit = some 1100) ∧
    (let x := { (onLine .rx).line 0 with rxBuf := [0x14, 0x60], rxCount := 2 }
     ((onLine .rx).setLine 0 x).line 0 = x ∧ x.st = .rx ∧ x.attempt = some att ∧
      ∀ b ∈ [0x00#8, 0x30#8, 0xFF#8], x.rxCount + 1 ≠ (byteAt (x.rxBuf ++ [b]) 2).toNat + 5) ∧
    (∀ p ∈ [(frameOf 0x14 0x60 [1, 2], Verdict.replyOk), (frameOf 0x14 0x7C [], .replyReject),
        (frameOf 0x14 0x7D [], .replyBusy), (frameOf 0x14 0xE0 [], .stale), ([0x14, 0x60, 0, 0, 0], .checkError)],
      (rxLine p.1).st = .rx ∧ (rxLine p.1).attempt = some att ∧ 3 ≤ (rxLine p.1).rxCount + 1 ∧
        (rxLine p.1).rxCount + 1 = (byteAt p.1 2).toNat + 5 ∧ classify att p.1 = p.2) := by decide +kernel

theorem witness_FramesClassified :
    48 < (byteAt [0x14, 0x60, 49] 2).toNat ∧
      ((byteAt [0x14, 0x60, 48] 2).toNat ≤ 48 ∧
        bytesAt [0x14, 0x60, 0, 0, 0] 3 2 ≠ checkChars ([0x14, 0x60, 0, 0, 0].take 3)) ∧
      (0x3F#8).toNat < 64 ∧ (List.replicate 48 (0 : Byte)).length ≤ 48 := by decide +kernel

theorem witness_ExactlyOnceAtTheNode :
    1 ≤ att.function.toNat ∧ att.function.toNat ≤ 0x3B ∧ att.data.length ≤ 48 ∧
      (Remote.powerUp 0x14).address = att.address ∧ att.address ≠ 0xFF#8 ∧
      (Remote.powerUp 0x14).expected = att.seq := by decide

theorem witness_CharacterSentMatches :
    (∀ a ∈ [att, { att with address := 0xFF, function := 0x3F, respLimit := none }], ∀ k ∈ [0, 3, 4],
      let x := { (onLine .tx).line 0 with attempt := some a, txPos := k }
      ((onLine .tx).setLine 0 x).line 0 = x ∧ x.st = .tx ∧ x.attempt = some a ∧ a.frame.length = 5) ∧
    att.address ≠ 0xFF#8 ∧
    (∀ k ∈ [0, 3, 4],
      let x := { base.line 0 with st := .starting, phase := .sending, txPos := k }
      (base.setLine 0 x).line 0 = x ∧ x.st = .starting ∧ x.phase = .sending) ∧
    (∀ e ∈ [Echo.silence, .char 0xFF false true, .char 0xFF true false], e ≠ .char 0xFF true true) := by decide +kernel

/-- Each clause at its limit and one below: an echo that differs, a missing stop bit, the gap limit, the response limit, the
bound on the guard wait with each reason for the guard time not to be reached. -/
theorem witness_AttemptsEnd :
    (∀ st ∈ [LineSt.tx, .wait, .rx, .guard], ∀ g ∈ [44, 45], ∀ t ∈ [1099, 1100],
      let x := { (onLine st).line 0 with gapT := g, respT := t, waited := t, guardT := 21 }
      (((onLine st).setLine 0 x).line 0) = x ∧ x.attempt = some att ∧ x.st = st ∧ x.inChar = false ∧ x.space = false ∧
        x.quietOn = false ∧ x.guardT < x.cfg.guardTime ∧ x.cfg.gapLimit * (10 + x.cfg.stopBits) = 44 ∧
        att.respLimit.getD 0 = 1100 ∧ att.respLimit.getD x.cfg.respLimit = 1100) ∧
    (∀ y ∈ [(false, true), (true, false)],
      let x := { (onLine .guard).line 0 with waited := 1100, guardT := 22, inChar := y.1, space := y.2 }
      x.st = .guard ∧ x.attempt = some att ∧ (x.inChar = true ∨ x.space = true)) ∧
    (let x := { (onLine .wait).line 0 with respT := 1100, space := true }
     ((onLine .wait).setLine 0 x).line 0 = x ∧ x.st = .wait ∧ x.attempt = some att ∧ x.space = true) ∧
    (∀ st ∈ [LineSt.settle, .starting],
      let x := { Line.offWith LineCfg.default 0 false with st := st, phase := .clashed, gapT := 45 }
      (base.setLine 0 x).line 0 = x ∧ x.cfg.gapLimit * (10 + x.cfg.stopBits) < x.gapT ∧ x.st = st) ∧
    Echo.silence ≠ .char (byteAt att.frame 0) true true := by decide +kernel

/-- A line on which the guard time, or the quiet time, is just reached. -/
def ripe (st : LineSt) (a : Option Attempt) (quiet : Bool) : State :=
  base.setLine 0 { Line.offWith LineCfg.default 0 false with st := st, attempt := a, guardT := 22, quietOn := quiet, quietT := 220 }

theorem witness_GuardAndQuiet :
    (∀ p ∈ [(LineSt.guard, some att), (.guard, none), (.starting, none)],
      let x := (ripe p.1 p.2 false).line 0
      x.quietOn = false ∧ x.inChar = false ∧ x.space = false ∧ x.cfg.guardTime ≤ x.guardT ∧ x.st = p.1 ∧
        x.attempt = p.2 ∧ x.phase = .guardWait) ∧
      (let x := (ripe .starting none true).line 0
       x.quietOn = true ∧ x.cfg.quietTime ≤ x.quietT) ∧
      (let x := { (ripe .guard none true).line 0 with quietT := 219 }
       x.quietOn ≠ false ∧ x.quietT < x.cfg.quietTime) := by decide +kernel

theorem witness_BreakAndRecovery :
    (∀ p ∈ [(LineSt.rx, some att), (.guard, some att), (.starting, none)],
      let x := { (ripe p.1 p.2 false).line 0 with space := true, breakT := 220 }
      x.st ≠ .off ∧ x.st ≠ .fault ∧ 20 * (10 + x.cfg.stopBits) ≤ x.breakT ∧ x.attempt = p.2) ∧
    (let x := { (ripe .guard none false).line 0 with space := true, breakT := 219 }
     x.st ≠ .off ∧ x.breakT < 20 * (10 + x.cfg.stopBits)) ∧
    (∀ m ∈ [21, 22],
      let x := { (ripe .fault none false).line 0 with markT := m }
      x.st = .fault ∧ 2 * (10 + x.cfg.stopBits) = 22 ∧ x.markT = m) := by decide +kernel

/-- Each fate, on a slot with an attempt running; a settled slot; a poll instance with and without a further attempt, with
and without a change, and a withdrawn one. -/
theorem witness_OutcomesSettled :
    (onLine .guard).slot 5 = some activeSlot ∧ activeSlot.txn = some exOn ∧ activeSlot.st = .active ∧
      activeSlot.settled = none ∧ (onLine .guard).findNode exOn.line exOn.address = some 3 ∧
      (base.setSlot 5 (some activeSlot)).findNode exOn.line exOn.address = none ∧
      (∀ p ∈ [(exOn, Outcome.replyOk, Fate.answered), (exOn, .replyReject, .rejected), (exOn, .timeout, .again),
          ({ exOn with attempts := 3 }, .timeout, .ends .noReply 0 0), (exOn, .replyBusy, .again),
          ({ exOn with busies := 4 }, .replyBusy, .ends .nodeBusy 0 0), ({ exOn with abortMark := true }, .clash, .ends .aborted 0 0),
          ({ exOn with latePass := true }, .clash, .ends .expired 0 0), (exOn, .fault, .ends .lineFault 0 0),
          ({ exOn with detached := true }, .timeout, .ends .nodeDisabled 0 0),
          ({ exOn with kind := .discover }, .replyBusy, .ends .nodeBusy 0 0)], p.1.fate (Report.bare p.2.1) = p.2.2) ∧
      heldWork.slot 5 = some heldSlot ∧ heldSlot.st ≠ .active ∧ exOn.capacity ≠ 0 ∧
      ({ exOn with kind := .broadcast }).fate (Report.bare .replyOk) = .answered ∧
      (∀ k ∈ [none, some flight], (polling k).poll 63 = some { poll with due := k.isNone, inst := k } ∧
        ((polling k).node poll.node).isSome = true) ∧
      flight.attempts < flight.retry + 1 ∧ poll.changed poll.stored = false ∧ poll.changed [] = true := by decide +kernel

theorem witness_NodeHealth :
    (∀ h ∈ [Health.unknown, .online, .suspect, .offline, .disabled],
      (base.setNode 3 (some { nd with health := h })).node 3 = some { nd with health := h }) ∧
      (∀ o ∈ [Outcome.replyOk, .replyReject, .replyBusy, .timeout, .checkError, .truncated, .charError, .clash, .fault],
        (Report.bare o).outcome = o) ∧
      (∀ f ∈ [1, 2], min 15 (f + 1) = f + 1 ∧ LineCfg.default.offThresh = 3) ∧
      (let s := (base.setNode 3 (some { nd with openX := some (.poll 63) })).setPoll 63 (some { poll with inst := some flight })
       (s.poll 63).map (·.st) = some .active ∧ poll.removal = false ∧ poll.node = 3) ∧ nd.removal = false := by decide +kernel

/-- Each expiry at its time and a millisecond before it. -/
theorem witness_Expiries :
    (∀ st ∈ [SlotSt.pending, .active, .held],
      (due st).ctl = .running ∧
        (due st).slot 5 = some { pendingSlot with st := st, txn := some { ex with deadline := some 0 } }) ∧
      (due .pending).node 3 = some { nd with health := .offline, nextProbe := some 0, holdOffEnd := some 0 } ∧
      (due .pending).poll 63 = some poll ∧ poll.nextDue = some 0 ∧
      ((due .pending).cq 1).timer = .running ((due .pending).cq 1).delay ∧ State.reset.ctl = .off := by decide +kernel
theorem witness_Expiries_time :
    ((0 : Word) - 0).toNat < 2147483648 ∧ ¬(((0 : Word) - 1 - 0).toNat < 2147483648) ∧
      ((1000 : Word) - (0 + BitVec.ofNat 32 LineCfg.default.probeIval)).toNat < 2147483648 ∧
      ¬(((999 : Word) - (0 + BitVec.ofNat 32 LineCfg.default.probeIval)).toNat < 2147483648) := by decide
/-- A promotion at its time. -/
theorem witness_Expiries_promoted :
    let s := probing 1000
    s.ctl = .running ∧ (s.line 0).st = .idle ∧ (s.line 0).stopRequested = false ∧ (s.line 0).attempt = none ∧
      s.node 3 = some { nd with health := .offline, pendingList := [], nextProbe := some 0 } ∧ s.ms = 1000 ∧
      (s.line 0).cfg.probeIval = 1000 ∧ nd.promoted = false := by decide +kernel
/-- What keeps a promotion back, and each time absent. -/
theorem witness_Expiries_none :
    (let x := { base.line 0 with stopRequested := true, attempt := some { att with owner := .probe 3 } }
     (base.setLine 0 x).line 0 = x ∧ x.st = .idle) ∧ base.node 3 = none ∧ base.slot 5 = none ∧ base.poll 63 = none ∧
      nd.holdOffEnd = none ∧ nd.nextProbe = none ∧ ex.deadline = none ∧ (base.cq 1).timer = .stopped := by decide +kernel

theorem witness_ConditionsComeToHold :
    base.ctl = .running ∧
      (∀ st ∈ [LineSt.idle, .guard, .settle, .fault],
        let s := base.setLine 0 { Line.offWith LineCfg.default 0 false with st := st, stopRequested := true }
        (s.line 0).stopRequested = true ∧ (s.line 0).attempt = none ∧ (s.line 0).st = st ∧ (s.sched 0).lineList = [] ∧
          (∀ n r, s.node n = some r → r.line = 0 → r.pendingList = []) ∧ ∀ i, s.slot i = none) ∧
      (let s := base.setNode 3 (some { nd with removal := true, pendingList := [] })
       s.node 3 = some { nd with removal := true, pendingList := [] } ∧ s.probing 0 3 = false ∧
        s.detachedRuns { nd with removal := true, pendingList := [] } = false) ∧
      ((waitingWork.setPoll 63 (some { poll with removal := true })).poll 63 = some { poll with removal := true }) ∧
      (let s := base.setSq 7 { base.sq 7 with st := .deleting }
       (s.sq 7).st = .deleting ∧ ∀ i x, s.slot i = some x → x.sq ≠ 7) ∧
      (let s := base.setCq 3 { base.cq 3 with st := .deleting }
       (s.cq 3).st = .deleting ∧ ∀ e, s.writer = some e → e.cq ≠ 3) := by decide +kernel

/-- The premises of the statements about every step (NoticesOnceKept, KeysUniqueKept, OneInstanceKept, QuotaStaysKept,
RingsStayKept, QuietStaysKept): the state after reset meets each, and a step follows it. -/
theorem witness_invariants :
    State.reset.NoticesOnce ∧ State.reset.KeysUnique ∧ State.reset.OneInstance ∧ State.reset.QuotaKept ∧ State.reset.RingsKept ∧
      State.reset.Quiet ∧ ∃ t, step State.reset = .next t := by
  refine ⟨?_, ?_, ?_, ?_, ?_, quiet_reset, _, rfl⟩
  · simp only [State.NoticesOnce]; decide
  · have h : ∀ n, State.reset.node n = none := by decide +kernel
    intro n m r q hn
    rw [h n] at hn; cases hn
  · simp only [State.OneInstance]; decide +kernel
  · simp only [State.QuotaKept]; decide +kernel
  · simp only [State.RingsKept, Cq.Ring]; decide +kernel

theorem witness_HeldSlotsStay :
    heldWork.slot 5 = some heldSlot ∧ heldSlot.st = .held ∧ ¬mayEndHeld .writerBeginEntry ∧
      (∃ t, exec .writerBeginEntry heldWork = .next t) ∧ heldWork.pending = [] ∧ ∃ t, step heldWork = .next t :=
  ⟨by decide +kernel, by decide, id, ⟨_, rfl⟩, rfl, _, rfl⟩

theorem witness_SeqChangesOnlyWhereItMay :
    ¬mayMoveSeq (.schedulerChoice 0) ∧ waitingWork.node 3 = some nd ∧
      (∃ t q, exec (.schedulerChoice 0) waitingWork = .next t ∧ t.node 3 = some q) ∧ waitingWork.pending = [] ∧
      ∃ t, step waitingWork = .next t ∧ t.node 3 = some nd :=
  ⟨id, by decide +kernel, ⟨_, { nd with openX := some (.slot 5) }, rfl, by decide +kernel⟩, rfl, _, rfl, by decide +kernel⟩

end Sys2Proof.Tests
end

/-! O55 (R110). The invariant speaks of the poll table alone. First the frame of the table: every operation that leaves it
alone. Then what an entry may become, and then, operation by operation, that the table keeps the invariant; every command
and the tick are chains of these. -/

namespace Sys2Proof.Machine

/-! ### Operations that leave the poll table alone -/

section PollTable
variable (s : State)

theorem State.polls_foldl {α : Type} {f : State → α → State} (h : ∀ s x, (f s x).polls = s.polls) (l : List α) :
    (l.foldl f s).polls = s.polls :=
  List.foldlRecOn (motive := fun t => t.polls = s.polls) l f rfl fun t ht x _ => (h t x).trans ht

/-! Notices, lists and completions. -/

@[simp] theorem State.polls_pend (x : Source) : (s.pend x).polls = s.polls := by
  unfold State.pend; split <;> rfl
@[simp] theorem State.polls_pendNode (n : NodeId) : (s.pendNode n).polls = s.polls := by simp [State.pendNode]
@[simp] theorem State.polls_pendSq (q : SqId) (e : QueueErr) : (s.pendSq q e).polls = s.polls := by simp [State.pendSq]
@[simp] theorem State.polls_pendCq (c : CqId) : (s.pendCq c).polls = s.polls := by simp [State.pendCq]
@[simp] theorem State.polls_leaveList (i : SlotId) (t : Txn) : (s.leaveList i t).polls = s.polls := by
  unfold State.leaveList
  repeat' split
  all_goals rfl
@[simp] theorem State.polls_enterHeld (i : SlotId) (r : Settled) : (s.enterHeld i r).polls = s.polls := by
  unfold State.enterHeld; split <;> rfl
@[simp] theorem State.polls_complete (i : SlotId) (st : Status) (code : Byte) (turn : Nat) (unk : Bool) :
    (s.complete i st code turn unk).polls = s.polls := by
  unfold State.complete; split <;> simp
@[simp] theorem State.polls_flushPending (st : Status) (i : SlotId) : (s.flushPending st i).polls = s.polls := by
  unfold State.flushPending; split <;> simp
@[simp] theorem State.polls_abortSlot (i : SlotId) : (s.abortSlot i).polls = s.polls := by
  unfold State.abortSlot; split <;> [skip; split] <;> simp

/-! The end of an attempt. -/

@[simp] theorem State.polls_nodeReport (n : NodeId) (q f : Bool) (rep : Report) :
    (s.nodeReport n q f rep).polls = s.polls := by
  unfold State.nodeReport; split
  · rfl
  · split <;> (dsimp only; split <;> simp)
@[simp] theorem State.polls_zeroSeq (l : LineId) : (s.zeroSeq l).polls = s.polls :=
  s.polls_foldl (fun t _ => t.modNode_polls _ _) _
@[simp] theorem State.polls_answerSlot (i : SlotId) (t : Txn) (rep : Report) :
    (s.answerSlot i t rep).polls = s.polls := by
  unfold State.answerSlot; dsimp only; split <;> simp
@[simp] theorem State.polls_applyFate (i : SlotId) (t : Txn) (rep : Report) :
    (s.applyFate i t rep).polls = s.polls := by
  unfold State.applyFate; split <;> simp
@[simp] theorem State.polls_afterBroadcast (t : Txn) (rep : Report) : (s.afterBroadcast t rep).polls = s.polls := by
  unfold State.afterBroadcast; split <;> simp

/-! The admin unit. -/

@[simp] theorem State.polls_adminDone (tag : Nat) (st : Status) (v : Nat) (h : Option Health) :
    (s.adminDone tag st v h).polls = s.polls := rfl
@[simp] theorem State.polls_fail (r : List Byte) (st : Status) : (s.fail r st).polls = s.polls := rfl
@[simp] theorem State.polls_done (r : List Byte) (v : Nat) : (s.done r v).polls = s.polls := rfl
@[simp] theorem State.polls_closeAbort : s.closeAbort.polls = s.polls := by
  unfold State.closeAbort; split
  · dsimp only; split <;> rfl
  · rfl
@[simp] theorem State.polls_readyResult : s.readyResult.polls = s.polls := by
  unfold State.readyResult
  repeat' split
  all_goals rfl
@[simp] theorem State.polls_sqAbsent (q : SqId) : (s.sqAbsent q).polls = s.polls := rfl
@[simp] theorem State.polls_cqAbsent (c : CqId) : (s.cqAbsent c).polls = s.polls := rfl
@[simp] theorem State.polls_nodeVacant (n : NodeId) : (s.nodeVacant n).polls = s.polls := rfl
theorem State.polls_doneOrAwait (r : List Byte) (due : Bool) {close : State → State}
    (hc : (close s).polls = s.polls) (v : Nat) (x : Source) : (s.doneOrAwait r due close v x).polls = s.polls := by
  unfold State.doneOrAwait; split <;> [exact hc; rfl]
@[simp] theorem State.polls_doneOrAwait_sqAbsent (r : List Byte) (due : Bool) (q : SqId) (v : Nat) (x : Source) :
    (s.doneOrAwait r due (·.sqAbsent q) v x).polls = s.polls := s.polls_doneOrAwait r due (s.polls_sqAbsent q) v x
@[simp] theorem State.polls_doneOrAwait_cqAbsent (r : List Byte) (due : Bool) (c : CqId) (v : Nat) (x : Source) :
    (s.doneOrAwait r due (·.cqAbsent c) v x).polls = s.polls := s.polls_doneOrAwait r due (s.polls_cqAbsent c) v x
@[simp] theorem State.polls_doneOrAwait_nodeVacant (r : List Byte) (due : Bool) (n : NodeId) (v : Nat) (x : Source) :
    (s.doneOrAwait r due (·.nodeVacant n) v x).polls = s.polls := s.polls_doneOrAwait r due (s.polls_nodeVacant n) v x
@[simp] theorem State.polls_abortQueue (q : SqId) : (s.abortQueue q).polls = s.polls :=
  s.polls_foldl State.polls_abortSlot _
@[simp] theorem State.polls_stopList (l : List SlotId) : (s.stopList l).polls = s.polls :=
  s.polls_foldl (fun t i => t.polls_flushPending .lineStopped i) l
@[simp] theorem State.polls_stopNode (l : LineId) (n : NodeId) : (s.stopNode l n).polls = s.polls := by
  unfold State.stopNode
  repeat' split
  all_goals simp
@[simp] theorem State.polls_disableSlot (n : NodeId) (i : SlotId) : (s.disableSlot n i).polls = s.polls := by
  unfold State.disableSlot; split <;> [skip; split] <;> simp
@[simp] theorem State.polls_removeMark (n : NodeId) : (s.removeMark n).polls = s.polls := by
  unfold State.removeMark; split
  · rfl
  · exact State.polls_foldl _ State.polls_abortSlot _
@[simp] theorem State.polls_abortMatched (r : List Byte) (l : List SlotId) : (s.abortMatched r l).polls = s.polls :=
  s.polls_foldl State.polls_abortSlot l

/-! The administrative commands on queues, and those whose effect is on lines, records and slots alone. -/

@[simp] theorem State.polls_createCq (r : List Byte) : (s.createCq r).polls = s.polls := by
  unfold State.createCq
  repeat' split
  all_goals simp
@[simp] theorem State.polls_deleteCq (r : List Byte) : (s.deleteCq r).polls = s.polls := by
  unfold State.deleteCq
  repeat' split
  all_goals simp
@[simp] theorem State.polls_tuneCq (r : List Byte) : (s.tuneCq r).polls = s.polls := by
  unfold State.tuneCq
  repeat' split
  all_goals simp
@[simp] theorem State.polls_createSq (r : List Byte) : (s.createSq r).polls = s.polls := by
  unfold State.createSq
  repeat' split
  all_goals simp
@[simp] theorem State.polls_deleteSq (r : List Byte) : (s.deleteSq r).polls = s.polls := by
  unfold State.deleteSq
  repeat' split
  all_goals simp
@[simp] theorem State.polls_setNoticeQueue (r : List Byte) : (s.setNoticeQueue r).polls = s.polls := by
  unfold State.setNoticeQueue
  repeat' split
  all_goals simp
@[simp] theorem State.polls_configureLine (r : List Byte) : (s.configureLine r).polls = s.polls := by
  unfold State.configureLine
  repeat' split
  all_goals simp
@[simp] theorem State.polls_removeNodeCmd (r : List Byte) : (s.removeNodeCmd r).polls = s.polls := by
  unfold State.removeNodeCmd
  repeat' split
  all_goals simp
@[simp] theorem State.polls_readNodeCmd (r : List Byte) : (s.readNodeCmd r).polls = s.polls := by
  unfold State.readNodeCmd
  repeat' split
  all_goals rfl
@[simp] theorem State.polls_abortTag (r : List Byte) : (s.abortTag r).polls = s.polls := by
  unfold State.abortTag
  repeat' split
  all_goals simp
@[simp] theorem State.polls_abortNode (r : List Byte) : (s.abortNode r).polls = s.polls := by
  unfold State.abortNode; split <;> simp
@[simp] theorem State.polls_abortOnLine (r : List Byte) : (s.abortOnLine r).polls = s.polls := by
  unfold State.abortOnLine; split <;> simp
@[simp] theorem State.polls_undoNode (a : WriteAnswer) (n : NodeId) (c : Option (Nat × Nat × Nat)) :
    (s.undoNode a n c).polls = s.polls := by
  unfold State.undoNode; split <;> rfl

/-! The register window. -/

@[simp] theorem State.polls_enable : s.enable.polls = s.polls := by
  unfold State.enable; split <;> [split; skip; skip; skip; skip] <;> rfl
@[simp] theorem State.polls_postTail (q : SqId) (tail : Nat) : (s.postTail q tail).polls = s.polls := by
  unfold State.postTail; split <;> [skip; skip; split; split] <;> simp
@[simp] theorem State.polls_post (w : Word) : (s.post w).polls = s.polls := by
  unfold State.post; split <;> [split; skip] <;> simp
@[simp] theorem State.polls_releaseHead (c : CqId) (head : Nat) : (s.releaseHead c head).polls = s.polls := by
  unfold State.releaseHead; dsimp only; split <;> [split; skip] <;> simp
@[simp] theorem State.polls_release (w : Word) : (s.release w).polls = s.polls := by
  unfold State.release; split <;> [split; skip] <;> simp
@[simp] theorem State.polls_acknowledge (w : Word) : (s.acknowledge w).polls = s.polls :=
  s.polls_foldl (fun t c => by unfold State.ackCq; split <;> rfl) _

/-! The fetch engine. -/

@[simp] theorem State.polls_fetchNext : s.fetchNext.polls = s.polls := by
  unfold State.fetchNext; split <;> rfl
@[simp] theorem State.polls_joinList (i : SlotId) (t : Txn) : (s.joinList i t).polls = s.polls := by
  unfold State.joinList; split <;> [split; skip] <;> rfl
@[simp] theorem State.polls_refuse (i : SlotId) (r : List Byte) (t : Option Txn) (st : Status) (h : Option Health) :
    (s.refuse i r t st h).polls = s.polls := by
  simp [State.refuse]
@[simp] theorem State.polls_acceptRecord (i : SlotId) (q : SqId) (r : List Byte) (t : Txn) :
    (s.acceptRecord i q r t).polls = s.polls := by
  unfold State.acceptRecord; dsimp only; split <;> simp
@[simp] theorem State.polls_judge (i : SlotId) (q : SqId) (r data : List Byte) :
    (s.judge i q r data).polls = s.polls := by
  unfold State.judge; split
  · dsimp only; split <;> [skip; split] <;> simp
  · simp
@[simp] theorem State.polls_validate (f : Fetch) (r data : List Byte) : (s.validate f r data).polls = s.polls := by
  simp [State.validate]
@[simp] theorem State.polls_recordRead (r : List Byte) : (s.recordRead r).polls = s.polls := by
  unfold State.recordRead
  repeat' split
  all_goals simp
@[simp] theorem State.polls_dataRead (bytes : List Byte) : (s.dataRead bytes).polls = s.polls := by
  unfold State.dataRead; split <;> [split; skip] <;> simp
@[simp] theorem State.polls_readErrorOn (q : SqId) : (s.readErrorOn q).polls = s.polls := by
  unfold State.readErrorOn; split <;> simp
@[simp] theorem State.polls_adminFetch : s.adminFetch.polls = s.polls := by
  unfold State.adminFetch; split <;> rfl

/-! Line units and schedulers. -/

@[simp] theorem State.polls_resyncChar (l : LineId) (echo : Echo) : (s.resyncChar l echo).polls = s.polls := by
  unfold State.resyncChar; dsimp only; split <;> [split; skip] <;> simp
@[simp] theorem State.polls_startBitOn (l : LineId) : (s.startBitOn l).polls = s.polls := by
  unfold State.startBitOn; split <;> [skip; split] <;> rfl
@[simp] theorem State.polls_guardTime (l : LineId) : (s.guardTime l).polls = s.polls := by
  unfold State.guardTime; dsimp only; split <;> rfl
@[simp] theorem State.polls_faultEnds (l : LineId) : (s.faultEnds l).polls = s.polls := by
  unfold State.faultEnds; dsimp only; split <;> simp
@[simp] theorem State.polls_quietExpired (l : LineId) : (s.quietExpired l).polls = s.polls := by
  unfold State.quietExpired; dsimp only; split <;> rfl
@[simp] theorem State.polls_promoteNode (l : LineId) (n : NodeId) : (s.promoteNode l n).polls = s.polls := by
  unfold State.promoteNode; split <;> [split; skip] <;> rfl
@[simp] theorem State.polls_promote (l : LineId) : (s.promote l).polls = s.polls :=
  s.polls_foldl (fun t n => t.polls_promoteNode l n) _
@[simp] theorem State.polls_handTxn (l : LineId) (i : SlotId) : (s.handTxn l i).polls = s.polls := by
  unfold State.handTxn; split
  · dsimp only; split <;> [split; skip] <;> rfl
  · rfl
@[simp] theorem State.polls_handProbe (l : LineId) (n : NodeId) : (s.handProbe l n).polls = s.polls := by
  unfold State.handProbe; split <;> rfl

/-! Expiries of slots, records and aggregators. -/

@[simp] theorem State.polls_expire (i : SlotId) : (s.expire i).polls = s.polls := by
  unfold State.expire; split <;> simp
@[simp] theorem State.polls_holdOffEnds (n : NodeId) : (s.holdOffEnds n).polls = s.polls := by
  unfold State.holdOffEnds; split <;> [split; skip] <;> rfl
@[simp] theorem State.polls_probeFallsDue (n : NodeId) : (s.probeFallsDue n).polls = s.polls := by
  unfold State.probeFallsDue; split <;> [split; skip] <;> rfl
@[simp] theorem State.polls_probePromotes (n : NodeId) : (s.probePromotes n).polls = s.polls := by
  unfold State.probePromotes; split <;> [split; skip] <;> simp
@[simp] theorem State.polls_aggregatorEnds (c : CqId) : (s.aggregatorEnds c).polls = s.polls := by
  unfold State.aggregatorEnds; split <;> [split; skip] <;> rfl

/-! The completion writer. -/

@[simp] theorem State.polls_beginCompletion (c : CqId) : (s.beginCompletion c).polls = s.polls := by
  unfold State.beginCompletion
  repeat' split
  all_goals rfl
@[simp] theorem State.polls_freeEntry (ref : HeldRef) : (s.freeEntry ref).polls = s.polls := by
  cases ref <;> rfl
@[simp] theorem State.polls_entryFailed : s.entryFailed.polls = s.polls := by
  unfold State.entryFailed; split <;> rfl

end PollTable

/-! ### One entry -/

/-- An entry is not both due and in flight (R110). -/
def Poll.OneInstance (e : Poll) : Prop := ¬(e.due = true ∧ e.inst.isSome = true)

theorem Poll.oneInstance_of_not_due {e : Poll} (h : e.due = false) : e.OneInstance := by
  simp [Poll.OneInstance, h]

theorem Poll.oneInstance_of_inst_none {e : Poll} (h : e.inst = none) : e.OneInstance := by
  simp [Poll.OneInstance, h]

/-- An entry in flight is not due. -/
theorem Poll.OneInstance.not_due {e : Poll} {k : PollInst} (h : e.OneInstance) (hk : e.inst = some k) : e.due = false := by
  simpa [Poll.OneInstance, hk] using h

theorem Poll.oneInstance_withdrawn (e : Poll) : e.withdrawn.OneInstance := Poll.oneInstance_of_not_due rfl

theorem Poll.oneInstance_ended (e : Poll) (result : Status) (baseline : Bool) : (e.ended result baseline).OneInstance :=
  Poll.oneInstance_of_inst_none rfl

/-- A period expiry makes an entry due only where it is not in flight (R109). -/
theorem Poll.OneInstance.expired {e : Poll} (h : e.OneInstance) (due : Word) : (e.expired due).OneInstance := by
  cases hk : e.inst with
  | none => exact Poll.oneInstance_of_inst_none hk
  | some k => exact Poll.oneInstance_of_not_due (by simp [Poll.expired, hk, h.not_due hk])

/-- Every entry is empty after a reset (R122, R182). -/
theorem State.oneInstance_cleared (s : State) : s.cleared.OneInstance := by
  intro p e hp
  have hn : s.cleared.polls = Vector.replicate 64 none := rfl
  simp [State.poll, hn] at hp

namespace State.OneInstance

/-! ### The poll table -/

variable {s : State} (h : s.OneInstance)
include h

/-- The invariant is about the poll table alone. -/
theorem of_polls {t : State} (e : t.polls = s.polls) : t.OneInstance := by
  simpa only [State.OneInstance, State.poll, e] using h

theorem foldl {α : Type} {f : State → α → State} (hf : ∀ t x, t.OneInstance → (f t x).OneInstance) (l : List α) :
    (l.foldl f s).OneInstance :=
  List.foldlRecOn (motive := State.OneInstance) l f h fun t ht x _ => hf t x ht

theorem setPoll (p : PollId) {x : Option Poll} (hx : ∀ e, x = some e → e.OneInstance) : (s.setPoll p x).OneInstance := by
  intro q e hq
  rw [State.poll_setPoll] at hq
  split at hq
  · exact hx e hq
  · exact h q e hq

theorem setPoll_some (p : PollId) {e : Poll} (he : e.OneInstance) : (s.setPoll p (some e)).OneInstance :=
  h.setPoll p fun _ hx => Option.some.inj hx ▸ he

theorem modPoll (p : PollId) {f : Poll → Poll} (hf : ∀ e, e.OneInstance → (f e).OneInstance) :
    (s.modPoll p f).OneInstance := by
  refine h.setPoll p fun e hx => ?_
  obtain ⟨e', he', rfl⟩ := Option.map_eq_some_iff.mp hx
  exact hf e' (h p e' he')

theorem pend (x : Source) : (s.pend x).OneInstance := h.of_polls (s.polls_pend x)

theorem setNode (n : NodeId) (x : Option Node) : (s.setNode n x).OneInstance := h
theorem modNode (n : NodeId) (f : Node → Node) : (s.modNode n f).OneInstance := h

theorem pendNode (n : NodeId) : (s.pendNode n).OneInstance := h.of_polls (s.polls_pendNode n)

theorem pendPoll (p : PollId) : (s.pendPoll p).OneInstance :=
  (h.modPoll p (f := fun e => { e with change := true }) fun _ he => he).pend _

/-! ### Withdrawing, suspending, resuming (R116 to R118) -/

theorem withdraw (p : PollId) : (s.withdraw p).OneInstance := by
  unfold State.withdraw
  split
  · exact h
  · next e _ =>
    have hw : (s.setPoll p (some e.withdrawn)).OneInstance := h.setPoll_some p e.oneInstance_withdrawn
    dsimp only; split <;> exact hw

theorem suspend (p : PollId) : (s.suspend p).OneInstance := by
  unfold State.suspend
  split
  · exact h
  · split
    · exact (h.withdraw p).modPoll p fun _ he => he
    · exact h

theorem resume (p : PollId) : (s.resume p).OneInstance :=
  h.modPoll p fun e he => by split <;> exact he

theorem suspendNode (n : NodeId) : (s.suspendNode n).OneInstance := h.foldl (fun _ p ht => ht.suspend p) _

theorem suspendLine (l : LineId) : (s.suspendLine l).OneInstance := h.foldl (fun _ p ht => ht.suspend p) _

theorem resumeNode (n : NodeId) : (s.resumeNode n).OneInstance := by
  unfold State.resumeNode
  split
  · exact h
  · split
    · exact h
    · exact h.foldl (fun _ p ht => ht.resume p) _

theorem resumeLine (l : LineId) : (s.resumeLine l).OneInstance := h.foldl (fun _ p ht => ht.resume p) _

/-! ### The end of an attempt (R32, R51, R82, R112) -/

theorem offlineFlush (n : NodeId) : (s.offlineFlush n).OneInstance := by
  unfold State.offlineFlush
  split
  · exact h
  · next r _ =>
    have hf : (r.pendingList.foldl (fun t i => t.flushPending .nodeOffline i) s).OneInstance :=
      h.foldl (fun t i ht => ht.of_polls (t.polls_flushPending _ i)) _
    exact (hf.suspendNode n).of_polls (State.polls_pendNode _ n)

theorem slotReport (i : SlotId) (q : Bool) (rep : Report) : (s.slotReport i q rep).OneInstance := by
  unfold State.slotReport
  split
  · dsimp only
    split
    · exact h.of_polls (by simp)
    · split
      · exact State.OneInstance.offlineFlush (h.of_polls (by simp)) _
      · exact h.of_polls (by simp)
  · exact h

theorem nodeReport (n : NodeId) (q f : Bool) (rep : Report) : (s.nodeReport n q f rep).OneInstance :=
  h.of_polls (s.polls_nodeReport n q f rep)

/-- Between two attempts an entry stays in flight, and it is not due; at the last it is in flight no more (R112). -/
theorem pollReport (p : PollId) (q : Bool) (rep : Report) : (s.pollReport p q rep).OneInstance := by
  unfold State.pollReport
  split
  · exact h
  next e hp =>
  have he : e.OneInstance := h p e hp
  extract_lets cold c1 s1 s2 ok s4 s3
  split
  · have hc1 : c1.OneInstance := (h.setPoll_some p (e := cold) he).nodeReport e.node q true rep
    split
    · exact hc1.offlineFlush _
    · exact hc1
  next k hk =>
  extract_lets k1
  split
  · have hk1 : { cold with inst := some k1 }.OneInstance := Poll.oneInstance_of_not_due (he.not_due hk)
    exact (h.setPoll_some p hk1).nodeReport _ _ _ _
  · have hs2 : s2.OneInstance := (h.nodeReport e.node q true rep).modNode _ _
    have hs4 : s4.OneInstance := hs2.setPoll_some p (e.oneInstance_ended .ok true)
    have hs3 : s3.OneInstance := by
      unfold s3
      split
      · split
        · exact hs4.pendPoll p
        · exact hs4
      · exact hs2.setPoll_some p (e.oneInstance_ended _ _)
    split
    · exact hs3.offlineFlush _
    · exact hs3

theorem probeReport (n : NodeId) (rep : Option Report) : (s.probeReport n rep).OneInstance := by
  unfold State.probeReport
  split
  · exact h
  split
  · extract_lets later
    split
    · exact h.setNode _ _
    · split
      case h_1 => exact ((h.setNode _ _).resumeNode n).pendNode n
      case h_2 => exact ((h.setNode _ _).resumeNode n).pendNode n
      all_goals exact h.setNode _ _
  · exact h

theorem reportTo (a : Attempt) (rep : Report) : (s.reportTo a rep).OneInstance := by
  unfold State.reportTo
  split
  · exact h.slotReport _ _ _
  · exact h.pollReport _ _ _
  · exact h.probeReport _ _

theorem setLine (l : LineId) (x : Line) : (s.setLine l x).OneInstance := h
theorem modLine (l : LineId) (f : Line → Line) : (s.modLine l f).OneInstance := h

theorem endAttempt (l : LineId) (rep : Report) (dest : LineSt) : (s.endAttempt l rep dest).OneInstance := by
  unfold State.endAttempt
  split
  · exact h
  · exact (h.modLine _ _).reportTo _ _

theorem cutShort (a : Attempt) (sent : Bool) : (s.cutShort a sent).OneInstance := by
  unfold State.cutShort
  split
  · split
    · exact h.of_polls (by simp)
    · exact h
  · exact h.probeReport _ none
  · next p _ =>
    split
    · exact h
    · next e hp =>
      split
      · exact (h.setPoll_some p (e.oneInstance_ended _ _)).modNode _ _
      · exact h.setPoll_some p (e := { e with running := false }) (h p e hp)

/-! ### What comes about in the same step -/

theorem lineOff (l : LineId) : (s.lineOff l).OneInstance := (h.modLine _ _).suspendLine l

theorem pollEmpty (p : PollId) : (s.pollEmpty p).OneInstance := h.setPoll p (by simp)

theorem closeObj (x : Source) : (s.closeObj x).OneInstance := by
  cases x <;> simp only [State.closeObj] <;> split
  case line.isTrue => exact h.lineOff _
  case poll.isTrue => exact h.pollEmpty _
  all_goals exact h.of_polls rfl

theorem readyResult : s.readyResult.OneInstance := h.of_polls s.polls_readyResult

theorem closeWaiting : s.closeWaiting.OneInstance := h.foldl (fun _ x ht => ht.closeObj x) _

theorem closing : s.closing.OneInstance := by
  unfold State.closing
  split
  · exact h.closeWaiting.of_polls (by simp)
  · exact h

theorem settle (x : Source) : (s.settle x).OneInstance := by
  unfold State.settle
  split
  · exact (h.closeObj x).readyResult
  · exact h

/-! ### The controller (R176 to R182) -/

/-- An entry still in flight is withdrawn as the controller stops (R178). -/
theorem stopPoll (p : PollId) : (s.stopPoll p).OneInstance := by
  unfold State.stopPoll
  split
  · exact h
  · split
    · exact (h.withdraw p).modPoll p fun _ he => he
    · exact h

theorem enterStopped : s.enterStopped.OneInstance := by
  have stopped := h.foldl (fun _ p ht => ht.stopPoll p) allPolls
  exact stopped.of_polls (by simp only [State.enterStopped])

theorem stops : s.stops.OneInstance := by
  unfold State.stops
  split
  · exact h.enterStopped
  · exact h

theorem drain : s.drain.OneInstance := by
  unfold State.drain
  split
  · split
    · exact h.enterStopped
    · exact h
  · exact h

theorem control (w : Word) : (s.control w).OneInstance := by
  unfold State.control
  split
  · exact s.oneInstance_cleared
  · split
    · exact h.of_polls s.polls_enable
    · split
      · exact h.drain
      · exact h

theorem writeReg (offset : Nat) (w : Word) : (s.writeReg offset w).OneInstance := by
  unfold State.writeReg
  split
  case h_1 => exact h.control w
  case h_5 => exact h.of_polls (s.polls_post w)
  case h_6 => exact h.of_polls (s.polls_release w)
  case h_7 => exact h.of_polls (s.polls_acknowledge w)
  case h_8 => exact h
  all_goals split <;> exact h

theorem access (a : Access) : (s.access a).OneInstance := by
  unfold State.access
  split
  · exact h
  · split
    · exact h
    · split
      · exact h.writeReg _ _
      · exact h

/-! ### Fetches -/

theorem fetchFailed : s.fetchFailed.OneInstance := by
  unfold State.fetchFailed
  split
  · split
    · exact h
    · exact State.OneInstance.closing (h.of_polls (by simp))
  · exact h

theorem adminFetchFailed : s.adminFetchFailed.OneInstance := by
  unfold State.adminFetchFailed
  split
  · exact State.OneInstance.closing (h.of_polls (by simp))
  · exact h

/-! ### The administrative commands (chapter 9) -/

theorem take {f : State → State} (hf : ∀ t, t.OneInstance → (f t).OneInstance) : (s.take f).OneInstance := by
  unfold State.take
  split
  · exact State.OneInstance.closing (hf _ h)
  · exact h

/-- A command that leaves the poll table alone. -/
theorem take_of_polls {f : State → State} (hf : ∀ t, (f t).polls = t.polls) : (s.take f).OneInstance :=
  h.take fun t ht => ht.of_polls (hf t)

theorem doneOrAwait (r : List Byte) (due : Bool) {close : State → State} (hc : (close s).OneInstance) (value : Nat)
    (x : Source) : (s.doneOrAwait r due close value x).OneInstance := by
  unfold State.doneOrAwait
  split
  · exact hc
  · exact h

theorem startLine (r : List Byte) : (s.startLine r).OneInstance := by
  unfold State.startLine
  split
  · exact h
  · split
    · exact h
    · exact (h.modLine _ _).resumeLine _

theorem stopDraining (r : List Byte) : (s.stopDraining r).OneInstance := by
  unfold State.stopDraining
  split
  · exact h
  next l _ =>
  extract_lets s1
  have hs1 : s1.OneInstance := h.modLine _ _
  split <;> [exact h; skip]
  split <;> [exact h; skip]
  split <;> [exact h; skip]
  exact hs1.doneOrAwait r _ (hs1.lineOff l) _ _

/-- The attempt that an aborting STOP LINE cuts may be a poll entry's (R112). -/
theorem cutAttempt (l : LineId) : (s.cutAttempt l).OneInstance := by
  unfold State.cutAttempt
  split
  · exact (h.modLine _ _).cutShort _ _
  · exact h

theorem abortLine (l : LineId) : (s.abortLine l).OneInstance := by
  have stopped : (allNodes.foldl (fun t n => t.stopNode l n)
      ((s.cutAttempt l).stopList ((s.cutAttempt l).sched l).lineList)).OneInstance :=
    State.OneInstance.foldl ((h.cutAttempt l).of_polls (by simp)) (fun t n ht => ht.of_polls (t.polls_stopNode l n)) _
  have closed := stopped.foldl (f := State.closeObj) (fun _ x ht => ht.closeObj x)
  exact (closed _).lineOff l

theorem stopAborting (r : List Byte) : (s.stopAborting r).OneInstance := by
  unfold State.stopAborting
  split
  · exact h
  · split
    · exact h
    · exact (h.abortLine _).of_polls (State.polls_done _ _ _)

theorem disableNode (n : NodeId) : (s.disableNode n).OneInstance := by
  unfold State.disableNode
  split
  · exact h
  next r _ =>
  extract_lets s1
  have hs1 : s1.OneInstance := h.setNode _ _
  have disabled := hs1.foldl (fun t i ht => ht.of_polls (t.polls_disableSlot n i)) r.pendingList
  exact (disabled.modNode n Node.released).suspendNode n

theorem requestNode (n : NodeId) (disable : Bool) : (s.requestNode n disable).OneInstance := by
  unfold State.requestNode
  split
  · exact h
  · split
    · split
      · exact h
      · exact h.disableNode n
    · split
      · exact (h.modNode _ _).resumeNode n
      · exact h

theorem setNodeCmd (r : List Byte) : (s.setNodeCmd r).OneInstance := by
  unfold State.setNodeCmd
  split
  · split
    · split
      · exact h
      · exact (h.modNode _ _).requestNode _ _
    · split
      · exact h.of_polls rfl
      · exact h
  · exact h

/-- A new entry is neither due nor in flight (R108). -/
theorem makePoll (np : NewPoll) (data : List Byte) : (s.makePoll np data).OneInstance :=
  h.setPoll_some np.id (Poll.oneInstance_of_not_due rfl)

theorem addPollCmd (r : List Byte) : (s.addPollCmd r).OneInstance := by
  unfold State.addPollCmd
  split
  · split
    · exact h
    · split
      · exact h
      · split
        · exact h
        · split
          · exact h.makePoll _ _
          · exact h
  · exact h

theorem addPollRead (a : ReadAnswer) : (s.addPollRead a).OneInstance := by
  unfold State.addPollRead
  split
  · extract_lets s1
    have hs1 : s1.OneInstance := h
    split
    · exact (State.OneInstance.of_polls (hs1.makePoll _ _) (State.polls_adminDone _ _ _ _ _)).closing
    · exact (hs1.of_polls (State.polls_adminDone _ _ _ _ _)).closing
  · exact h

theorem removePollMark (p : PollId) : (s.removePollMark p).OneInstance :=
  State.OneInstance.modPoll ((h.withdraw p).of_polls (State.unpend_polls _ _)) p fun _ he => he

theorem removePollCmd (r : List Byte) : (s.removePollCmd r).OneInstance := by
  unfold State.removePollCmd
  split
  · exact h
  next p _ =>
  extract_lets s1
  have hs1 : s1.OneInstance := h.removePollMark p
  split
  · exact h
  · exact hs1.doneOrAwait r _ (hs1.pollEmpty p) _ _

theorem readPollCmd (r : List Byte) : (s.readPollCmd r).OneInstance := by
  unfold State.readPollCmd
  split
  · exact h
  next p _ =>
  split
  · exact h
  · next e hp => exact h.setPoll_some p (e := { e with missed := 0 }) (h p e hp)

theorem nodeImageWritten (a : WriteAnswer) : (s.nodeImageWritten a).OneInstance := by
  unfold State.nodeImageWritten
  split
  · exact State.OneInstance.closing (h.of_polls (by simp))
  · exact h

theorem undoPoll (a : WriteAnswer) (p : PollId) (missed : Nat) : (s.undoPoll a p missed).OneInstance := by
  unfold State.undoPoll
  split
  · exact h.modPoll p fun _ he => he
  · exact h

theorem pollImageWritten (a : WriteAnswer) : (s.pollImageWritten a).OneInstance := by
  unfold State.pollImageWritten
  split
  · have hw : { s with adWrite := none }.OneInstance := h
    exact ((hw.undoPoll _ _ _).of_polls (State.polls_adminDone _ _ _ _ _)).closing
  · exact h

theorem abortEnds : s.abortEnds.OneInstance := by
  unfold State.abortEnds
  split
  · exact h.of_polls (by simp)
  · exact h

theorem readyEnds : s.readyEnds.OneInstance := by
  unfold State.readyEnds
  split
  · exact h.readyResult
  · exact h

/-! ### Schedulers and line units (chapters 2 and 5) -/

/-- A hand-over takes a due entry's due mark as it goes into flight; an entry already in flight was not due (R111). -/
theorem handPoll (l : LineId) (p : PollId) : (s.handPoll l p).OneInstance := by
  unfold State.handPoll
  split
  · exact h
  next e hp =>
  split
  · exact h
  next r _ =>
  extract_lets cfg
  split
  · exact ((h.setPoll_some p (Poll.oneInstance_of_not_due rfl)).modNode _ _).modLine _ _
  · next k hk =>
    have he : e.OneInstance := h p e hp
    have hk' : { e with inst := some { k with attempts := k.attempts + 1 }, running := true }.OneInstance :=
      Poll.oneInstance_of_not_due (he.not_due hk)
    exact (h.setPoll_some p hk').modLine _ _

theorem handOver (l : LineId) (c : Cand) : (s.handOver l c).OneInstance := by
  unfold State.handOver
  split
  · exact h.of_polls (by simp)
  · exact (h.handPoll l _).of_polls (State.modSched_polls _ _ _)
  · exact (h.handPoll l _).of_polls (State.modSched_polls _ _ _)
  · exact h.of_polls (by simp)

theorem schedule (l : LineId) : (s.schedule l).OneInstance := by
  unfold State.schedule
  split
  · extract_lets s1
    have hs1 : s1.OneInstance := h.of_polls (s.polls_promote l)
    split
    · exact hs1.handOver _ _
    · exact hs1
  · exact h

theorem txChar (l : LineId) (a : Attempt) (echo : Echo) : (s.txChar l a echo).OneInstance := by
  unfold State.txChar
  dsimp only
  split
  · split
    · exact h
    · split
      · exact h
      · exact (h.setLine _ _).endAttempt _ _ _
  · exact (h.setLine _ _).endAttempt _ _ _

theorem charSent (l : LineId) (echo : Echo) : (s.charSent l echo).OneInstance := by
  unfold State.charSent
  extract_lets x
  split
  · exact h
  · exact h.txChar _ _ _
  · split
    · exact h.of_polls (by simp)
    · exact h
  · exact h

theorem waitChar (l : LineId) (a : Attempt) (byte : Byte) (mark : Bool) : (s.waitChar l a byte mark).OneInstance := by
  unfold State.waitChar
  extract_lets x limit
  split
  · exact h
  · split
    · exact h.endAttempt _ _ _
    · split <;> exact h

theorem frameDone (l : LineId) (a : Attempt) (buf : List Byte) : (s.frameDone l a buf).OneInstance := by
  unfold State.frameDone
  split
  · exact h
  · exact h.endAttempt _ _ _

theorem rxChar (l : LineId) (a : Attempt) (byte : Byte) (mark : Bool) : (s.rxChar l a byte mark).OneInstance := by
  unfold State.rxChar
  extract_lets x buf
  split
  · split <;> exact h
  · split
    · exact h.frameDone _ _ _
    · exact h

theorem receive (l : LineId) (byte : Byte) (last : CharEnd) : (s.receive l byte last).OneInstance := by
  unfold State.receive
  extract_lets x s1
  have hs1 : s1.OneInstance := h
  split <;> [exact h; skip]
  split <;> [exact h; skip]
  split <;> [exact h; skip]
  split
  · exact hs1
  · exact hs1.waitChar _ _ _ _
  · exact hs1.rxChar _ _ _ _
  · exact hs1

theorem missingStop (l : LineId) : (s.missingStop l).OneInstance := by
  unfold State.missingStop
  extract_lets x s1
  have hs1 : s1.OneInstance := h
  split <;> [exact h; skip]
  split <;> [exact h; skip]
  split
  · exact hs1
  · exact hs1.endAttempt _ _ _
  · exact hs1.endAttempt _ _ _
  · exact hs1

theorem guardWait (l : LineId) : (s.guardWait l).OneInstance := by
  unfold State.guardWait
  extract_lets x
  split
  · split
    · exact h.endAttempt _ _ _
    · exact h
  · exact h

theorem gapPassed (l : LineId) : (s.gapPassed l).OneInstance := by
  unfold State.gapPassed
  extract_lets x
  split
  · split
    case h_1 => exact h.endAttempt _ _ _
    case h_4 => split <;> exact h
    all_goals exact h
  · exact h

theorem respTimeout (l : LineId) : (s.respTimeout l).OneInstance := by
  unfold State.respTimeout
  extract_lets x
  split
  · split
    · exact h.endAttempt _ _ _
    · exact h
  · exact h

theorem breakSeen (l : LineId) : (s.breakSeen l).OneInstance := by
  unfold State.breakSeen State.breakLine
  split
  · extract_lets x
    split
    · exact h
    · exact ((h.setLine _ _).endAttempt _ _ _).pend _
  · exact h

/-! ### Expiries and the tick (R83, R109, R182) -/

theorem deadlineEnds (i : SlotId) : (s.deadlineEnds i).OneInstance := by
  unfold State.deadlineEnds
  split
  · split
    · exact State.OneInstance.closing (h.of_polls (s.polls_expire i))
    · exact h
  · exact h

theorem periodEnds (p : PollId) : (s.periodEnds p).OneInstance := by
  unfold State.periodEnds
  split
  · split
    · exact h.modPoll p fun _ he => he.expired _
    · exact h
  · exact h

theorem takeExpiries : s.takeExpiries.OneInstance := by
  unfold State.takeExpiries
  extract_lets s1 s2 s3 s4
  have hs1 : s1.OneInstance := h.foldl (fun _ i ht => ht.deadlineEnds i) _
  have hs2 : s2.OneInstance := hs1.of_polls (s1.polls_foldl State.polls_holdOffEnds _)
  have hs3 : s3.OneInstance := hs2.of_polls (s2.polls_foldl State.polls_probeFallsDue _)
  have hs4 : s4.OneInstance := hs3.foldl (fun _ p ht => ht.periodEnds p) _
  exact hs4.of_polls (s4.polls_foldl State.polls_aggregatorEnds _)

theorem tick : s.tick.OneInstance :=
  State.OneInstance.takeExpiries (h.stops.of_polls (by simp))

/-! ### The completion writer (R119, R133, R144) -/

theorem beginPoll (c : CqId) (p : PollId) {e : Poll} (he : e.OneInstance) : (s.beginPoll c p e).OneInstance := by
  have hs1 := h.setPoll_some p (e := { e with change := false }) he
  unfold State.beginPoll
  extract_lets phase s1
  split <;> [skip; split] <;> exact hs1

theorem takeSource (c : CqId) (x : Source) : (s.takeSource c x).OneInstance := by
  unfold State.takeSource
  split
  case h_4 => split <;> exact h
  case h_5 p =>
    split
    · next e hp => exact h.beginPoll c p (h p e hp)
    · exact h
  all_goals exact h

theorem beginNotice (c : CqId) : (s.beginNotice c).OneInstance := by
  unfold State.beginNotice
  split
  · next x rest _ =>
    have ht : { s with noticeList := rest }.OneInstance := h
    exact ht.takeSource c x
  · exact h

theorem beginEntry : s.beginEntry.OneInstance := by
  unfold State.beginEntry
  split
  · split
    · split
      · exact h.of_polls (by simp)
      · exact h.beginNotice _
      · exact h
    · exact h
  · exact h

theorem faultPoll (p : PollId) : (s.faultPoll p).OneInstance := by
  unfold State.faultPoll
  split
  · split
    · exact h
    · exact (h.withdraw p).modPoll p fun _ he => he
  · exact h

theorem pollDataWritten (a : WriteAnswer) : (s.pollDataWritten a).OneInstance := by
  unfold State.pollDataWritten
  split
  · extract_lets s1 phase
    have hs1 : s1.OneInstance := h
    split
    · exact hs1
    · split
      · exact hs1
      · exact hs1.faultPoll _
  · exact h

theorem entryWritten : s.entryWritten.OneInstance := by
  unfold State.entryWritten
  split
  · exact State.OneInstance.closing (h.of_polls (by simp; rfl))
  · exact State.OneInstance.closing (h.of_polls rfl)
  · exact h

theorem replyWritten (a : WriteAnswer) : (s.replyWritten a).OneInstance := by
  unfold State.replyWritten
  split
  · split
    · exact State.OneInstance.closing (h.of_polls (by simp; rfl))
    · exact h
  · exact h

/-! ### Every command and the tick -/

/-- Every command answers a next state, and that state keeps the invariant. -/
theorem exec (i : Instr) : ∃ t, Machine.exec i s = .next t ∧ t.OneInstance :=
  match i with
  | .powerOn => ⟨_, rfl, s.oneInstance_cleared⟩
  | .resetRequest => ⟨_, rfl, s.oneInstance_cleared⟩
  | .enableRequest => ⟨_, rfl, h.of_polls s.polls_enable⟩
  | .drainRequest => ⟨_, rfl, h.drain⟩
  | .post w => ⟨_, rfl, h.of_polls (s.polls_post w)⟩
  | .release w => ⟨_, rfl, h.of_polls (s.polls_release w)⟩
  | .causeAcknowledge w => ⟨_, rfl, h.of_polls (s.polls_acknowledge w)⟩
  | .registerWrite a => ⟨_, rfl, h.access a⟩
  | .fetchStart => ⟨_, rfl, h.of_polls s.polls_fetchNext⟩
  | .fetchRecordReadDone r => ⟨_, rfl, h.of_polls (s.polls_recordRead r)⟩
  | .fetchDataReadDone bytes => ⟨_, rfl, h.of_polls (s.polls_dataRead bytes)⟩
  | .fetchReadError => ⟨_, rfl, h.fetchFailed⟩
  | .adminFetchStart => ⟨_, rfl, h.of_polls s.polls_adminFetch⟩
  | .adminReadError => ⟨_, rfl, h.adminFetchFailed⟩
  | .adminInvalidOpcode r => ⟨_, rfl, h.take_of_polls (·.polls_fail r _)⟩
  | .createCq r => ⟨_, rfl, h.take_of_polls (·.polls_createCq r)⟩
  | .deleteCq r => ⟨_, rfl, h.take_of_polls (·.polls_deleteCq r)⟩
  | .tuneCq r => ⟨_, rfl, h.take_of_polls (·.polls_tuneCq r)⟩
  | .createSq r => ⟨_, rfl, h.take_of_polls (·.polls_createSq r)⟩
  | .deleteSq r => ⟨_, rfl, h.take_of_polls (·.polls_deleteSq r)⟩
  | .configureLine r => ⟨_, rfl, h.take_of_polls (·.polls_configureLine r)⟩
  | .startLine r => ⟨_, rfl, h.take fun _ ht => ht.startLine r⟩
  | .stopLineDraining r => ⟨_, rfl, h.take fun _ ht => ht.stopDraining r⟩
  | .stopLineAborting r => ⟨_, rfl, h.take fun _ ht => ht.stopAborting r⟩
  | .setNode r => ⟨_, rfl, h.take fun _ ht => ht.setNodeCmd r⟩
  | .removeNode r => ⟨_, rfl, h.take_of_polls (·.polls_removeNodeCmd r)⟩
  | .readNode r => ⟨_, rfl, h.take_of_polls (·.polls_readNodeCmd r)⟩
  | .addPoll r => ⟨_, rfl, h.take fun _ ht => ht.addPollCmd r⟩
  | .removePoll r => ⟨_, rfl, h.take fun _ ht => ht.removePollCmd r⟩
  | .readPoll r => ⟨_, rfl, h.take fun _ ht => ht.readPollCmd r⟩
  | .abortBySqAndTag r => ⟨_, rfl, h.take_of_polls (·.polls_abortTag r)⟩
  | .abortByNode r => ⟨_, rfl, h.take_of_polls (·.polls_abortNode r)⟩
  | .abortByLine r => ⟨_, rfl, h.take_of_polls (·.polls_abortOnLine r)⟩
  | .setNoticeQueue r => ⟨_, rfl, h.take_of_polls (·.polls_setNoticeQueue r)⟩
  | .addPollDataReadDone a => ⟨_, rfl, h.addPollRead a⟩
  | .readNodeImageWriteDone a => ⟨_, rfl, h.nodeImageWritten a⟩
  | .readPollImageWriteDone a => ⟨_, rfl, h.pollImageWritten a⟩
  | .abortComplete => ⟨_, rfl, h.abortEnds⟩
  | .readyCommandResult => ⟨_, rfl, h.readyEnds⟩
  | .writerBeginEntry => ⟨_, rfl, h.beginEntry⟩
  | .pollDataWriteDone a => ⟨_, rfl, h.pollDataWritten a⟩
  | .entryWriteDone => ⟨_, rfl, h.entryWritten⟩
  | .entryWriteError => ⟨_, rfl, h.of_polls s.polls_entryFailed⟩
  | .replyDataWriteDone a => ⟨_, rfl, h.replyWritten a⟩
  | .schedulerChoice l => ⟨_, rfl, h.schedule l⟩
  | .startBitInIdle l => ⟨_, rfl, (h.of_polls (s.polls_startBitOn l)).closing⟩
  | .characterReceived l byte last => ⟨_, rfl, (h.receive l byte last).closing⟩
  | .characterSent l echo => ⟨_, rfl, (h.charSent l echo).closing⟩
  | .missingStopBit l => ⟨_, rfl, (h.missingStop l).closing⟩
  | .guardTimeReached l => ⟨_, rfl, (h.of_polls (s.polls_guardTime l)).closing⟩
  | .guardWaitBoundReached l => ⟨_, rfl, (h.guardWait l).closing⟩
  | .gapLimitPassed l => ⟨_, rfl, (h.gapPassed l).closing⟩
  | .responseTimeout l => ⟨_, rfl, (h.respTimeout l).closing⟩
  | .breakDetected l => ⟨_, rfl, (h.breakSeen l).closing⟩
  | .faultRecovery l => ⟨_, rfl, (h.of_polls (s.polls_faultEnds l)).closing⟩
  | .broadcastQuietExpired l => ⟨_, rfl, (h.of_polls (s.polls_quietExpired l)).closing⟩
  | .deadlineExpired i => ⟨_, rfl, h.deadlineEnds i⟩
  | .holdOffEnd n => ⟨_, rfl, h.of_polls (s.polls_holdOffEnds n)⟩
  | .probeDue n => ⟨_, rfl, h.of_polls (s.polls_probeFallsDue n)⟩
  | .probePromoted n => ⟨_, rfl, h.of_polls (s.polls_probePromotes n)⟩
  | .periodExpiry p => ⟨_, rfl, h.periodEnds p⟩
  | .aggregatorTimerExpired c => ⟨_, rfl, h.of_polls (s.polls_aggregatorEnds c)⟩
  | .lineEntersOff l => ⟨_, rfl, h.settle (.line l)⟩
  | .controllerStopped => ⟨_, rfl, h.stops⟩
  | .nodeRecordVacant n => ⟨_, rfl, h.settle (.node n)⟩
  | .pollEntryEmpty p => ⟨_, rfl, h.settle (.poll p)⟩
  | .sqBecomesAbsent q => ⟨_, rfl, h.settle (.sq q)⟩
  | .cqBecomesAbsent c => ⟨_, rfl, h.settle (.cq c)⟩

theorem step : ∃ t, Machine.step s = .next t ∧ t.OneInstance := by
  unfold Machine.step
  split
  · next i rest _ =>
    have hr : { s with pending := rest }.OneInstance := h
    exact hr.exec i
  · exact ⟨_, rfl, h.tick⟩

end State.OneInstance

/-- Settles O55: every command and the tick answer a next state that keeps the invariant, and a step answers one state. -/
theorem oneInstanceKept : Obligations.OneInstanceKept := by
  intro s t h hst
  obtain ⟨u, hu, h'⟩ := h.step
  cases hst.symm.trans hu
  exact h'

end Sys2Proof.Machine

/-! O10 and O11 (R125, R137). First what becoming pending does to the state, then a new tail and a new head of a queue that
exists, one equation per row of the tables; the two writes judge the controller state and the queue id before that. -/

namespace Sys2Proof.Machine

/-! ### Becoming pending (R142) -/

theorem State.pend_eq (s : State) (x : Source) : s.pend x = { s with noticeList := joined s.noticeList x } := by
  unfold State.pend joined
  split <;> rfl

@[simp] theorem State.setSq_setSq (s : State) (q : SqId) (x y : Sq) : (s.setSq q x).setSq q y = s.setSq q y := by
  simp [State.setSq]

theorem State.pendCq_eq (s : State) (c : CqId) :
    s.pendCq c =
      { s.setCq c { s.cq c with error := some .badRelease, noticeMark := true } with
        noticeList := joined s.noticeList (.cq c) } :=
  State.pend_eq _ _

/-- The two updates of a queue that a bad tail stalls are one. -/
theorem State.stall_pendSq (s : State) (q : SqId) (e : QueueErr) :
    (s.modSq q fun x => { x with st := .stalled }).pendSq q e =
      { s.setSq q { s.sq q with st := .stalled, error := some e, noticeMark := true } with
        noticeList := joined s.noticeList (.sq q) } := by
  unfold State.pendSq
  rw [State.pend_eq]
  simp [State.modSq]

/-! ### The controller states that ignore the two writes -/

theorem State.live_iff {s : State} : s.live = true ↔ ¬(s.ctl = .off ∨ s.ctl = .fatal) := by
  cases h : s.ctl <;> simp [State.live, h]

theorem State.post_of_not_live {s : State} (h : s.ctl = .off ∨ s.ctl = .fatal) (w : Word) : s.post w = s :=
  if_neg (mt State.live_iff.mp (not_not.mpr h))

theorem State.release_of_not_live {s : State} (h : s.ctl = .off ∨ s.ctl = .fatal) (w : Word) : s.release w = s :=
  if_neg (mt State.live_iff.mp (not_not.mpr h))

/-! ### A new tail (R125) -/

section Post
variable {s : State} {w : Word} (hs : ¬(s.ctl = .off ∨ s.ctl = .fatal))
include hs

theorem State.post_of_id (h : (w.extractLsb' 16 8).toNat < 8) :
    s.post w = s.postTail ⟨(w.extractLsb' 16 8).toNat, h⟩ (w.extractLsb' 0 16).toNat := by
  rw [State.post, if_pos (State.live_iff.mpr hs), regQueue, asSq_of_lt h]; rfl

theorem State.post_of_no_id (h : ¬(w.extractLsb' 16 8).toNat < 8) : s.post w = s := by
  rw [State.post, if_pos (State.live_iff.mpr hs), regQueue, asSq_of_not h]

end Post

section Tail
variable {s : State} {q : SqId} {tail : Nat}

theorem State.postTail_ignored (h : (s.sq q).st = .absent ∨ (s.sq q).st = .deleting) : s.postTail q tail = s := by
  rcases h with h | h <;> simp [State.postTail, h]

/-- A queue that is neither ABSENT nor DELETING judges the tail, STALLED or not. -/
theorem State.postTail_judged (h : ¬((s.sq q).st = .absent ∨ (s.sq q).st = .deleting)) :
    s.postTail q tail =
      if tail < (s.sq q).size then s.modSq q fun x => { x with tail := tail }
      else (s.modSq q fun x => { x with st := .stalled }).pendSq q .badPost := by
  unfold State.postTail
  cases hst : (s.sq q).st with
  | absent => exact absurd (.inl hst) h
  | deleting => exact absurd (.inr hst) h
  | active | stalled => rfl

theorem State.postTail_taken (h : ¬((s.sq q).st = .absent ∨ (s.sq q).st = .deleting)) (ht : tail < (s.sq q).size) :
    s.postTail q tail = s.setSq q { s.sq q with tail := tail } := by
  rw [State.postTail_judged h, if_pos ht]
  rfl

theorem State.postTail_bad (h : ¬((s.sq q).st = .absent ∨ (s.sq q).st = .deleting)) (ht : ¬tail < (s.sq q).size) :
    s.postTail q tail =
      { s.setSq q { s.sq q with st := .stalled, error := some .badPost, noticeMark := true } with
        noticeList := joined s.noticeList (.sq q) } := by
  rw [State.postTail_judged h, if_neg ht, State.stall_pendSq]

end Tail

/-- Settles O10: a case per row of R125's table. -/
theorem postTaken : Obligations.PostTaken := by
  intro s w
  refine congrArg Host.Outcome.next ?_
  dsimp only
  split
  case isTrue hs => rw [State.post_of_not_live hs]; rfl
  case isFalse hs =>
    split
    case isFalse hid => rw [State.post_of_no_id hs hid]; rfl
    case isTrue hid =>
      rw [State.post_of_id hs hid]
      split
      case isTrue hst => rw [State.postTail_ignored hst]; rfl
      case isFalse hst =>
        split
        case isTrue ht => rw [State.postTail_taken hst ht]; rfl
        case isFalse ht => rw [State.postTail_bad hst ht]; rfl

/-! ### A new head (R137) -/

section Release
variable {s : State} {w : Word} (hs : ¬(s.ctl = .off ∨ s.ctl = .fatal))
include hs

theorem State.release_of_id (h : (w.extractLsb' 16 8).toNat < 4) :
    s.release w = s.releaseHead ⟨(w.extractLsb' 16 8).toNat, h⟩ (w.extractLsb' 0 16).toNat := by
  rw [State.release, if_pos (State.live_iff.mpr hs), regQueue, asCq_of_lt h]; rfl

theorem State.release_of_no_id (h : ¬(w.extractLsb' 16 8).toNat < 4) : s.release w = s := by
  rw [State.release, if_pos (State.live_iff.mpr hs), regQueue, asCq_of_not h]

end Release

section Head
variable {s : State} {c : CqId} {head : Nat}

theorem State.releaseHead_ignored (h : (s.cq c).st ≠ .active) : s.releaseHead c head = s := by
  unfold State.releaseHead
  cases hst : (s.cq c).st with
  | active => exact absurd hst h
  | absent | stalled | deleting => simp [hst]

theorem State.releaseHead_taken (h : (s.cq c).st = .active) (hd : head < (s.cq c).size)
    (hn : (s.cq c).released head ≤ (s.cq c).unreleased) :
    s.releaseHead c head =
      s.setCq c { s.cq c with head := head, unreleased := (s.cq c).unreleased - (s.cq c).released head } := by
  simp [State.releaseHead, h, hd, hn, State.modCq]

theorem State.releaseHead_bad (h : (s.cq c).st = .active)
    (hb : ¬(head < (s.cq c).size ∧ (s.cq c).released head ≤ (s.cq c).unreleased)) :
    s.releaseHead c head =
      { s.setCq c { s.cq c with error := some .badRelease, noticeMark := true } with
        noticeList := joined s.noticeList (.cq c) } := by
  simp only [State.releaseHead, h, if_neg hb, State.pendCq_eq]

end Head

/-- Settles O11: a case per row of R137's table. -/
theorem releaseTaken : Obligations.ReleaseTaken := by
  intro s w
  refine congrArg Host.Outcome.next ?_
  dsimp only
  split
  case isTrue hs => rw [State.release_of_not_live hs]; rfl
  case isFalse hs =>
    split
    case isFalse hid => rw [State.release_of_no_id hs hid]; rfl
    case isTrue hid =>
      rw [State.release_of_id hs hid]
      split
      case isTrue hst => rw [State.releaseHead_ignored hst]; rfl
      case isFalse hst =>
        have hact := not_not.mp hst
        split
        case isTrue hd => obtain ⟨hd, hn⟩ := hd; rw [State.releaseHead_taken hact hd hn]; rfl
        case isFalse hb => rw [State.releaseHead_bad hact hb]; rfl

end Sys2Proof.Machine

/-! O12 (R150). A write to CAUSE goes through the CQs once, in ascending order. No step of it touches anything but the table of
the CQs, and each CQ is touched by its own step alone, so it ends acknowledged exactly when its position is written as 1. -/

namespace Sys2Proof.Machine

/-! ### The acknowledge of one CQ -/

theorem Cq.acknowledged_eq (c : Cq) :
    c.acknowledged = if c.st ≠ .absent then { c with cause := false, count := 0, timer := .stopped } else c := by
  unfold Cq.acknowledged
  cases h : c.st <;> simp

theorem State.ackCq_frame (s : State) (w : Word) (i : CqId) : s.ackCq w i = { s with cqs := (s.ackCq w i).cqs } := by
  unfold State.ackCq
  split <;> rfl

theorem State.cq_ackCq_self (s : State) (w : Word) (c : CqId) :
    (s.ackCq w c).cq c = if w.getLsbD c.val = true then (s.cq c).acknowledged else s.cq c := by
  unfold State.ackCq
  split <;> simp [State.modCq]

theorem State.cq_ackCq_ne (s : State) (w : Word) {i c : CqId} (h : i ≠ c) : (s.ackCq w i).cq c = s.cq c := by
  unfold State.ackCq
  split
  · exact s.cq_setCq_ne h _
  · rfl

/-! ### The acknowledge of every CQ of a list -/

theorem State.foldl_ackCq_frame (w : Word) (l : List CqId) (s : State) :
    l.foldl (fun t c => t.ackCq w c) s = { s with cqs := (l.foldl (fun t c => t.ackCq w c) s).cqs } :=
  List.foldlRecOn (motive := fun t : State => t = { s with cqs := t.cqs }) l _ rfl fun t ht i _ => by
    rw [t.ackCq_frame w i, ht]

theorem State.cq_foldl_ackCq_of_notMem (w : Word) {c : CqId} {l : List CqId} (hc : c ∉ l) (s : State) :
    (l.foldl (fun t c => t.ackCq w c) s).cq c = s.cq c :=
  List.foldlRecOn (motive := fun t : State => t.cq c = s.cq c) l _ rfl fun t ht _ hi =>
    (t.cq_ackCq_ne w (ne_of_mem_of_not_mem hi hc)).trans ht

/-- A CQ that stands once in the list is changed by its own step alone. -/
theorem State.cq_foldl_ackCq_of_mem (w : Word) {c : CqId} {l : List CqId} (hl : l.Nodup) (hc : c ∈ l) (s : State) :
    (l.foldl (fun t c => t.ackCq w c) s).cq c = (s.ackCq w c).cq c := by
  induction l generalizing s with
  | nil => cases hc
  | cons i l ih =>
    obtain ⟨hi, hl⟩ := List.nodup_cons.mp hl
    rw [List.foldl_cons]
    rcases List.mem_cons.mp hc with rfl | hc
    · exact State.cq_foldl_ackCq_of_notMem w hi _
    · have hne : i ≠ c := (ne_of_mem_of_not_mem hc hi).symm
      rw [ih hl hc, State.cq_ackCq_self, State.cq_ackCq_self, s.cq_ackCq_ne w hne]

/-! ### A write to CAUSE -/

theorem State.acknowledge_frame (s : State) (w : Word) : s.acknowledge w = { s with cqs := (s.acknowledge w).cqs } :=
  State.foldl_ackCq_frame w allCqs s

theorem State.cq_acknowledge (s : State) (w : Word) (c : CqId) :
    (s.acknowledge w).cq c = if w.getLsbD c.val = true then (s.cq c).acknowledged else s.cq c :=
  (State.cq_foldl_ackCq_of_mem w (List.nodup_finRange 4) (mem_allCqs c) s).trans (s.cq_ackCq_self w c)

/-- Settles O12: the frame of the write, and each CQ by whether its position is written as 1. -/
theorem causeAcknowledged : Obligations.CauseAcknowledged := by
  intro s w
  refine ⟨(s.acknowledge w).accepted, rfl, congrArg State.accepted (s.acknowledge_frame w), fun c => ?_⟩
  have hcq := s.cq_acknowledge w c
  rw [Cq.acknowledged_eq, ← ite_and] at hcq
  exact hcq

end Sys2Proof.Machine

/-! O8 (R184). A write to CONTROL has one equation per row of the table; an access at offset 0 is that write, and a read there
answers 0. -/

namespace Sys2Proof.Machine

/-! ### The rows of R184 -/

section Control
variable (s : State) {w : Word}

/-- A reset request is taken whatever else the write carries. -/
theorem State.control_of_reset (h : w.getLsbD 2 = true) : s.control w = s.controllerReset :=
  if_pos h

variable (hr : ¬w.getLsbD 2 = true)
include hr

theorem State.control_of_enable (h : (w.getLsbD 0 && !w.getLsbD 1) = true) : s.control w = s.enable :=
  (if_neg hr).trans (if_pos h)

theorem State.control_of_drain (h : (w.getLsbD 1 && !w.getLsbD 0) = true) : s.control w = s.drain := by
  have he : ¬(w.getLsbD 0 && !w.getLsbD 1) = true := by
    obtain ⟨hd, -⟩ := Bool.and_eq_true_iff.mp h
    simp [hd]
  exact (if_neg hr).trans ((if_neg he).trans (if_pos h))

/-- Enable and drain together, and neither of them, are ignored. -/
theorem State.control_of_neither (he : ¬(w.getLsbD 0 && !w.getLsbD 1) = true)
    (hd : ¬(w.getLsbD 1 && !w.getLsbD 0) = true) : s.control w = s :=
  (if_neg hr).trans ((if_neg he).trans (if_neg hd))

end Control

/-! ### The access at offset 0 -/

theorem exec_regWrite_control (s : State) (w : Word) : exec (regWrite 0 w) s = .next (s.control w).accepted :=
  exec_regWrite s 0 w (by decide) rfl

theorem exec_regRead_control (s : State) : exec (regRead 0) s = .next { s with answer := .value 0 } :=
  exec_regRead s 0 (by decide) rfl

/-- Settles O8: a case per row of R184's table, and the read. -/
theorem controlRegister : Obligations.ControlRegister := by
  intro s w
  refine ⟨?_, exec_regRead_control s⟩
  rw [exec_regWrite_control]
  split
  case isTrue hr => rw [s.control_of_reset hr]; rfl
  case isFalse hr =>
    split
    case isTrue he => rw [s.control_of_enable hr he]; rfl
    case isFalse he =>
      split
      case isTrue hd => rw [s.control_of_drain hr hd]; rfl
      case isFalse hd => rw [s.control_of_neither hr he hd]; rfl

end Sys2Proof.Machine

/-! What a step can do, said once for every statement that speaks of all commands. `Edit` lists the changes of one table or
list that the operations are made of, each with what it is sure to respect; `Moves` is a chain of them that also respects the
lines and the controller state. Every operation is shown to be such a chain; each invariant is then a matter of the few
edits. -/

namespace Sys2Proof.Machine

/-! ### One change -/

/-- What a step may do beyond the ordinary: request a write to host memory or hand work over, free a slot that is HELD, move a
record's SEQ. -/
structure Perm where
  write : Prop
  free  : Prop
  seq   : Prop

/-- The fields that the invariants speak of; every other field is blanked. -/
def State.core (s : State) : State :=
  { State.reset with
    ctl := s.ctl, lines := s.lines, nodes := s.nodes, slots := s.slots, sqs := s.sqs, cqs := s.cqs, writer := s.writer
    noticeList := s.noticeList, quWrites := s.quWrites, adWrite := s.adWrite, nuWrite := s.nuWrite, pending := s.pending }

/-- A record keeps its key, and its SEQ but with the permission. -/
structure Node.Keeps (P : Perm) (r q : Node) : Prop where
  line    : q.line = r.line
  address : q.address = r.address
  seq     : q.seq = r.seq ∨ P.seq

/-- A submission queue keeps its quota and does not become ABSENT. -/
structure Sq.Keeps (d e : Sq) : Prop where
  quota : e.quota = d.quota
  st    : e.st = .absent → d.st = .absent

/-- A completion queue stays a ring of its size, with no less room, ABSENT or not as it was. -/
structure Cq.Keeps (d e : Cq) : Prop where
  st   : e.st = .absent ↔ d.st = .absent
  size : e.size = d.size
  room : e.unreleased ≤ d.unreleased
  ring : d.Ring → e.Ring

theorem Cq.Keeps.refl (d : Cq) : d.Keeps d := ⟨.rfl, rfl, le_rfl, id⟩

/-- A slot is not HELD. -/
def State.NotHeld (s : State) (i : SlotId) : Prop := ∀ x, s.slot i = some x → x.st ≠ .held

/-- One change of a table or a list. The lines are free here, and the controller state but for OFF. -/
inductive Edit (P : Perm) : State → State → Prop
  | frame {s t : State} (h : t.core = s.core) : Edit P s t
  | lines (s : State) (v : Vector Line 4) : Edit P s { s with lines := v }
  | ctl (s : State) (c : Ctl) (h : c ≠ .off) : Edit P s { s with ctl := c }
  | notices (s : State) (l : List Source) (h : s.noticeList.Nodup → l.Nodup) : Edit P s { s with noticeList := l }
  | node (s : State) (n : NodeId) {r q : Node} (hr : s.node n = some r) (h : r.Keeps P q) : Edit P s (s.setNode n (some q))
  | vacate (s : State) (n : NodeId) : Edit P s (s.setNode n none)
  | create (s : State) (n : NodeId) (r : Node) (hf : s.findNode r.line r.address = none) (hP : P.seq) :
      Edit P s (s.setNode n (some r))
  | slot (s : State) (i : SlotId) {x y : Slot} (hx : s.slot i = some x) (hi : s.NotHeld i) (h : y.sq = x.sq) :
      Edit P s (s.setSlot i (some y))
  | free (s : State) (i : SlotId) (h : s.NotHeld i ∨ P.free) : Edit P s (s.setSlot i none)
  | reserve (s : State) (i : SlotId) (x : Slot) (hi : s.slot i = none) (h : s.occupied x.sq < (s.sq x.sq).quota) :
      Edit P s (s.setSlot i (some x))
  | sq (s : State) (q : SqId) {d : Sq} (h : (s.sq q).Keeps d) : Edit P s (s.setSq q d)
  | sqZero (s : State) (d : Sq) : Edit P s (s.setSq 0 d)
  | sqMade (s : State) (q : SqId) (d : Sq) (h : (s.sq q).st = .absent) (hd : d.st ≠ .absent) : Edit P s (s.setSq q d)
  | sqGone (s : State) (q : SqId) (h : s.occupied q = 0) : Edit P s (s.setSq q Sq.absent)
  | cqs (s : State) (v : Vector Cq 4) (h : ∀ c : CqId, (s.cq c).Keeps v[c]) : Edit P s { s with cqs := v }
  | cqMade (s : State) (c : CqId) (d : Cq) (h : (s.cq c).st = .absent ∨ s.ctl = .off) (hd : d.Ring) :
      Edit P s (s.setCq c d)
  | cqGone (s : State) (c : CqId) (h : s.writingOn c = false) : Edit P s (s.setCq c Cq.absent)
  | written (s : State) {c : CqId} {w : EntryWork} (k : EntryKind) (h : s.writer = some { cq := c, work := w }) :
      Edit P s ({ s with writer := none }.modCq c (·.written k))
  | writer (s : State) {e : Entry} (e' : Entry) (h : s.writer = some e) (hc : e'.cq = e.cq) :
      Edit P s { s with writer := some e' }
  | begin (s : State) (e : Entry) (hc : s.ctl ≠ .off) (hst : (s.cq e.cq).st ≠ .absent)
      (hr : (s.cq e.cq).unreleased < (s.cq e.cq).size) : Edit P s { s with writer := some e }
  | writes (s : State) (q : List BusWrite) (a n : Option BusWrite)
      (h : (s.NoWrites → q = [] ∧ a = none ∧ n = none) ∨ P.write) :
      Edit P s { s with quWrites := q, adWrite := a, nuWrite := n }

/-- Changes one after another. -/
abbrev Edits (P : Perm) : State → State → Prop := Relation.ReflTransGen (Edit P)

/-- A line stays sane, and has an attempt only where it had one or work may be handed over. -/
structure Line.Moves (P : Perm) (a b : Line) : Prop where
  sane    : a.Sane → b.Sane
  attempt : b.attempt ≠ none → a.attempt ≠ none ∨ P.write

theorem Line.Moves.refl {P : Perm} (a : Line) : a.Moves P a := ⟨id, Or.inl⟩

theorem Line.Moves.trans {P : Perm} {a b c : Line} (h : a.Moves P b) (g : b.Moves P c) : a.Moves P c :=
  ⟨fun ha => g.sane (h.sane ha), fun hc => (g.attempt hc).elim h.attempt Or.inr⟩

/-- What a state gives permission to by itself: a controller at work requests writes and hands over; an attempt may end with
reply data to write; one write may follow another. -/
structure Perm.Grants (P : Perm) (s : State) : Prop where
  working : s.working = true → P.write
  attempt : ∀ l, (s.line l).attempt ≠ none → P.write
  writes  : ¬s.NoWrites → P.write

/-- A chain of changes that respects the lines and keeps the controller state. -/
structure Moves (P : Perm) (s t : State) : Prop where
  grants : P.Grants s
  edits  : Edits P s t
  lines  : ∀ l, (s.line l).Moves P (t.line l)
  ctl    : t.ctl = s.ctl

theorem Moves.refl {P : Perm} {s : State} (g : P.Grants s) : Moves P s s := ⟨g, .refl, fun _ => .refl _, rfl⟩

theorem State.NotHeld.of_slots {s t : State} {i : SlotId} (h : s.NotHeld i) (e : t.slots = s.slots) : t.NotHeld i := by
  simpa only [State.NotHeld, State.slot, e] using h

theorem State.NotHeld.of_pending {s : State} {i : SlotId} (h : s.isPending i = true) : s.NotHeld i := fun x hx => by
  simp only [State.isPending, hx, beq_iff_eq] at h; simp [h]

theorem State.NotHeld.of_attempt {s : State} {i : SlotId} (h : s.attemptRuns i = true) : s.NotHeld i := fun x hx => by
  simp only [State.attemptRuns, hx, Bool.and_eq_true, beq_iff_eq] at h; simp [h]

theorem State.NotHeld.modTxn {s : State} {i : SlotId} (h : s.NotHeld i) (f : Txn → Txn) : (s.modTxn i f).NotHeld i := by
  intro x hx
  rw [State.slot_modTxn, if_pos rfl] at hx
  obtain ⟨y, hy, rfl⟩ := Option.map_eq_some_iff.mp hx
  exact h y hy

theorem State.slots_nodeReport (s : State) (n : NodeId) (q f : Bool) (rep : Report) :
    (s.nodeReport n q f rep).slots = s.slots := by
  have pended (t : State) : (t.pendNode n).slots = t.slots := by
    unfold State.pendNode State.pend; split <;> rfl
  unfold State.nodeReport
  split
  · rfl
  · split <;> (dsimp only; split <;> simp [pended])

/-- A report that moves the SEQ of a record needs the permission (R48, R56). -/
def Report.Allowed (P : Perm) (rep : Report) : Prop := rep.outcome = .replyOk ∨ rep.outcome = .replyReject → P.seq

theorem Node.keeps_accept {P : Perm} (r : Node) (q : Bool) (turn : Nat) (hP : P.seq) : r.Keeps P (r.accept q turn) := by
  refine ⟨?_, ?_, .inr hP⟩ <;> (unfold Node.accept Node.answered; dsimp only; split <;> rfl)

theorem Node.keeps_busy {P : Perm} (r : Node) (turn : Nat) (w : Word) : r.Keeps P (r.busy turn w) := by
  refine ⟨?_, ?_, .inl ?_⟩ <;>
    (unfold Node.busy Node.answered; dsimp only; split <;> [rfl; rfl; (split <;> rfl)])

theorem Node.keeps_silentFailure {P : Perm} (r : Node) (thresh : Nat) (w : Word) :
    r.Keeps P (r.silentFailure thresh w) := by
  refine ⟨?_, ?_, .inl ?_⟩ <;>
    (unfold Node.silentFailure; dsimp only; split <;> [(split <;> rfl); (split <;> rfl)])

/-- A line without its attempt is sane in any state that it is left in. -/
theorem Line.Moves.without {P : Perm} (a y : Line) {st : LineSt} (h : st = .guard ∨ st = .settle ∨ st = .fault) :
    a.Moves P (y.without st) := by
  refine ⟨fun _ => ?_, fun hn => absurd rfl hn⟩
  rcases h with rfl | rfl | rfl <;> simp [Line.Sane, Line.without]

/-- STOP LINE leaves a line in OFF, its driver as it was. -/
theorem Line.Moves.stopped {P : Perm} (a : Line) : a.Moves P a.stopped :=
  ⟨fun _ => by simp [Line.Sane, Line.stopped, Line.toOff, Line.offWith], fun hn => absurd rfl hn⟩

namespace Moves
variable {P : Perm} {s₀ s : State} (h : Moves P s₀ s)
include h

/-! ### Single changes -/

theorem working (hw : s.working = true) : P.write :=
  h.grants.working (by simpa only [State.working, h.ctl] using hw)

theorem write_of_attempt {l : LineId} (ha : (s.line l).attempt ≠ none) : P.write :=
  ((h.lines l).attempt ha).elim (h.grants.attempt l) id

/-- One more change, of neither a line nor the controller state. -/
theorem edit {t : State} (e : Edit P s t) (hl : t.lines = s.lines) (hc : t.ctl = s.ctl) :
    Moves P s₀ t where
  grants := h.grants
  edits := h.edits.tail e
  lines l := by simpa only [State.line, hl] using h.lines l
  ctl := hc.trans h.ctl

/-- No invariant speaks of the change. -/
theorem frame {t : State} (e : t.core = s.core) : Moves P s₀ t :=
  h.edit (.frame e) (by simpa [State.core] using congrArg State.lines e) (by simpa [State.core] using congrArg State.ctl e)

theorem foldl {α : Type} {f : State → α → State} (hf : ∀ t x, Moves P s₀ t → Moves P s₀ (f t x)) (l : List α) :
    Moves P s₀ (l.foldl f s) :=
  List.foldlRecOn (motive := Moves P s₀) l f h fun t ht x _ => hf t x ht

theorem setLine {l : LineId} {x : Line} (hx : (s.line l).Moves P x) : Moves P s₀ (s.setLine l x) where
  grants := h.grants
  edits := h.edits.tail (.lines s _)
  lines k := by
    rw [State.line_setLine]
    split
    case isTrue e => subst e; exact (h.lines l).trans hx
    case isFalse => exact h.lines k
  ctl := h.ctl

theorem modLine {l : LineId} {f : Line → Line} (hf : (s.line l).Moves P (f (s.line l))) : Moves P s₀ (s.modLine l f) :=
  h.setLine hf

theorem setPoll (p : PollId) (x : Option Poll) : Moves P s₀ (s.setPoll p x) := h.frame rfl
theorem modPoll (p : PollId) (f : Poll → Poll) : Moves P s₀ (s.modPoll p f) := h.frame rfl
theorem modSched (l : LineId) (f : Sched → Sched) : Moves P s₀ (s.modSched l f) := h.frame rfl
theorem makeReady (x : Source) : Moves P s₀ (s.makeReady x) := h.frame rfl

theorem setNode {n : NodeId} {r q : Node} (hr : s.node n = some r) (hq : r.Keeps P q) : Moves P s₀ (s.setNode n (some q)) :=
  h.edit (.node s n hr hq) rfl rfl

theorem modNode (n : NodeId) {f : Node → Node} (hf : ∀ r : Node, r.Keeps P (f r)) : Moves P s₀ (s.modNode n f) := by
  unfold State.modNode
  cases hr : s.node n with
  | none => exact h.edit (.vacate s n) rfl rfl
  | some r => exact h.setNode hr (hf r)

theorem modSlot {i : SlotId} (hi : s.NotHeld i) {f : Slot → Slot} (hf : ∀ x, (f x).sq = x.sq) :
    Moves P s₀ (s.modSlot i f) := by
  unfold State.modSlot
  cases hx : s.slot i with
  | none => exact h.edit (.free s i (.inl hi)) rfl rfl
  | some x => exact h.edit (.slot s i hx hi (hf x)) rfl rfl

theorem modTxn {i : SlotId} (hi : s.NotHeld i) (f : Txn → Txn) : Moves P s₀ (s.modTxn i f) := h.modSlot hi fun _ => rfl

theorem modSq (q : SqId) {f : Sq → Sq} (hf : (s.sq q).Keeps (f (s.sq q))) : Moves P s₀ (s.modSq q f) := h.edit (.sq s q hf) rfl rfl

theorem modCq (c : CqId) {f : Cq → Cq} (hf : (s.cq c).Keeps (f (s.cq c))) : Moves P s₀ (s.modCq c f) := by
  refine h.edit (.cqs s _ fun d => ?_) rfl rfl
  change (s.cq d).Keeps ((s.setCq c (f (s.cq c))).cq d)
  rw [State.cq_setCq]
  split
  case isTrue e => exact e ▸ hf
  case isFalse => exact .refl _

theorem pend (x : Source) : Moves P s₀ (s.pend x) := by
  have e : s.pend x = { s with noticeList := (s.pend x).noticeList } := by unfold State.pend; split <;> rfl
  rw [e]
  exact h.edit (.notices s _ State.nodup_pend) rfl rfl

theorem unpend (x : Source) : Moves P s₀ (s.unpend x) := h.edit (.notices s _ State.nodup_unpend) rfl rfl

theorem pushWrite (hP : P.write) (w : BusWrite) : Moves P s₀ (s.pushWrite w) :=
  h.edit (.writes s _ s.adWrite s.nuWrite (.inr hP)) rfl rfl


theorem pendNode (n : NodeId) : Moves P s₀ (s.pendNode n) := (h.modNode n (f := fun r => { r with noticeMark := true }) fun _ => ⟨rfl, rfl, .inl rfl⟩).pend _

theorem pendSq (q : SqId) (e : QueueErr) : Moves P s₀ (s.pendSq q e) := (h.modSq q ⟨rfl, id⟩).pend _

theorem pendCq (c : CqId) : Moves P s₀ (s.pendCq c) := (h.modCq c ⟨.rfl, rfl, le_rfl, id⟩).pend _

theorem pendPoll (p : PollId) : Moves P s₀ (s.pendPoll p) := (h.modPoll p _).pend _

/-! ### Lists, completions, aborts (R55, R60, R74, R85, R89) -/

theorem leaveList (i : SlotId) (t : Txn) : Moves P s₀ (s.leaveList i t) := by
  unfold State.leaveList
  split
  · split
    · exact h.modNode _ fun _ => ⟨rfl, rfl, .inl rfl⟩
    · exact h
  · exact h.modSched _ _

theorem enterHeld {i : SlotId} (hi : s.NotHeld i) (r : Settled) : Moves P s₀ (s.enterHeld i r) := by
  unfold State.enterHeld
  split
  · exact h
  · next x hx =>
    exact Moves.modCq (h.edit (.slot s i (y := { x with st := .held, settled := some r }) hx hi rfl) rfl rfl) _
      ⟨.rfl, rfl, le_rfl, id⟩

theorem complete {i : SlotId} (hi : s.NotHeld i) (st : Status) (code : Byte) (turn : Nat) (unk : Bool) :
    Moves P s₀ (s.complete i st code turn unk) := by
  unfold State.complete
  split
  · exact (h.leaveList i _).enterHeld (hi.of_slots (s.slots_leaveList i _)) _
  · exact h

theorem flushPending (st : Status) (i : SlotId) : Moves P s₀ (s.flushPending st i) := by
  unfold State.flushPending
  split
  case isTrue hp => exact h.complete (.of_pending hp) _ _ _ _
  case isFalse => exact h

theorem abortSlot (i : SlotId) : Moves P s₀ (s.abortSlot i) := by
  unfold State.abortSlot
  split
  case isTrue hp => exact h.complete (.of_pending hp) _ _ _ _
  case isFalse =>
    split
    case isTrue ha => exact h.modTxn (.of_attempt ha) _
    case isFalse => exact h

/-! ### Withdrawing, suspending, resuming (R116 to R118) -/

theorem withdraw (p : PollId) : Moves P s₀ (s.withdraw p) := by
  unfold State.withdraw
  split
  · exact h
  · dsimp only
    split
    · exact (h.setPoll p _).modNode _ fun _ => ⟨rfl, rfl, .inl rfl⟩
    · exact h.setPoll p _

theorem suspend (p : PollId) : Moves P s₀ (s.suspend p) := by
  unfold State.suspend
  split
  · exact h
  · split
    · exact (h.withdraw p).modPoll p _
    · exact h

theorem resume (p : PollId) : Moves P s₀ (s.resume p) := h.modPoll p _

theorem suspendNode (n : NodeId) : Moves P s₀ (s.suspendNode n) := h.foldl (fun _ p ht => ht.suspend p) _

theorem suspendLine (l : LineId) : Moves P s₀ (s.suspendLine l) := h.foldl (fun _ p ht => ht.suspend p) _

theorem resumeNode (n : NodeId) : Moves P s₀ (s.resumeNode n) := by
  unfold State.resumeNode
  split
  · exact h
  · split
    · exact h
    · exact h.foldl (fun _ p ht => ht.resume p) _

theorem resumeLine (l : LineId) : Moves P s₀ (s.resumeLine l) := h.foldl (fun _ p ht => ht.resume p) _

/-! ### The end of an attempt (R32, R48 to R51, R82, R112, R59) -/

theorem nodeReport (n : NodeId) (q f : Bool) {rep : Report} (hq : rep.Allowed P) :
    Moves P s₀ (s.nodeReport n q f rep) := by
  unfold State.nodeReport
  split
  · exact h
  next r hr =>
  have accepted (ho : rep.outcome = .replyOk ∨ rep.outcome = .replyReject) :
      Moves P s₀ (s.setNode n (some (r.accept q rep.turn))) :=
    h.setNode hr (r.keeps_accept _ _ (hq ho))
  have busy (w : Word) : Moves P s₀ (s.setNode n (some (r.busy rep.turn w))) := h.setNode hr (r.keeps_busy _ _)
  extract_lets cfg s1 s2
  split
  case h_1 ho | h_2 ho =>
    split
    · exact (accepted (by simp [ho])).pendNode n
    · exact accepted (by simp [ho])
  case h_3 =>
    split
    · exact (busy _).pendNode n
    · exact busy _
  case h_4 =>
    split
    · exact h.setNode hr (r.keeps_silentFailure _ _)
    · exact h

theorem offlineFlush (n : NodeId) : Moves P s₀ (s.offlineFlush n) := by
  unfold State.offlineFlush
  split
  · exact h
  · exact ((h.foldl (fun _ i ht => ht.flushPending .nodeOffline i) _).suspendNode n).pendNode n

theorem zeroSeq (hP : P.seq) (l : LineId) : Moves P s₀ (s.zeroSeq l) :=
  h.foldl (fun _ n ht => ht.modNode n fun r => by split <;> exact ⟨rfl, rfl, .inr hP⟩) _

theorem answerSlot (hP : P.write) {i : SlotId} (hi : s.NotHeld i) (t : Txn) (rep : Report) :
    Moves P s₀ (s.answerSlot i t rep) := by
  have hl : (s.leaveList i t).NotHeld i := hi.of_slots (s.slots_leaveList i t)
  unfold State.answerSlot
  dsimp only
  split
  · exact (h.leaveList i t).enterHeld hl _
  · exact Moves.pushWrite ((h.leaveList i t).modSlot hl (f := fun x => { x with settled := some _ }) fun _ => rfl) hP _

theorem applyFate (hP : P.write) {i : SlotId} (hi : s.NotHeld i) (t : Txn) (rep : Report) :
    Moves P s₀ (s.applyFate i t rep) := by
  unfold State.applyFate
  split
  · exact h.answerSlot hP hi t rep
  · exact (h.leaveList i t).enterHeld (hi.of_slots (s.slots_leaveList i t)) _
  · exact h.complete hi _ _ _ _
  · exact h.modSlot hi fun _ => rfl

theorem afterBroadcast {rep : Report} (hq : rep.Allowed P) (t : Txn) : Moves P s₀ (s.afterBroadcast t rep) := by
  unfold State.afterBroadcast
  split
  case isTrue hb => obtain ⟨-, -, ho⟩ := hb; exact h.zeroSeq (hq (.inl ho)) _
  case isFalse => exact h

theorem slotReport (hP : P.write) (i : SlotId) (q : Bool) {rep : Report} (hq : rep.Allowed P) :
    Moves P s₀ (s.slotReport i q rep) := by
  unfold State.slotReport
  split
  case h_2 => exact h
  next hs =>
  have hi : s.NotHeld i := fun x hx => by cases hs.symm.trans hx; exact SlotSt.noConfusion
  extract_lets t s1
  have h1 : Moves P s₀ s1 := h.modTxn hi _
  have hi1 : s1.NotHeld i := hi.modTxn _
  split
  · exact (h1.applyFate hP hi1 t rep).afterBroadcast hq t
  · next n _ =>
    extract_lets s2
    have h2 : Moves P s₀ s2 := (h1.nodeReport n q _ hq).applyFate hP (hi1.of_slots (s1.slots_nodeReport _ _ _ _)) t rep
    split
    · exact h2.offlineFlush n
    · exact h2

theorem pollReport (p : PollId) (q : Bool) {rep : Report} (hq : rep.Allowed P) : Moves P s₀ (s.pollReport p q rep) := by
  unfold State.pollReport
  split
  · exact h
  next e _ =>
  extract_lets cold c1 s1 s2 ok s4 s3
  split
  · have hc1 : Moves P s₀ c1 := (h.setPoll p _).nodeReport e.node q true hq
    split
    · exact hc1.offlineFlush _
    · exact hc1
  next k _ =>
  extract_lets k1
  split
  · exact (h.setPoll p _).nodeReport _ _ _ hq
  · have hs2 : Moves P s₀ s2 := (h.nodeReport e.node q true hq).modNode _ fun _ => ⟨rfl, rfl, .inl rfl⟩
    have hs3 : Moves P s₀ s3 := by
      unfold s3
      split
      · split
        · exact (hs2.setPoll p _).pendPoll p
        · exact hs2.setPoll p _
      · exact hs2.setPoll p _
    split
    · exact hs3.offlineFlush _
    · exact hs3

theorem probeReport (n : NodeId) {rep : Option Report} (hq : ∀ r, rep = some r → r.Allowed P) :
    Moves P s₀ (s.probeReport n rep) := by
  unfold State.probeReport
  split
  · exact h
  next r hr =>
  split
  case isFalse => exact h
  extract_lets later
  have hlater : Moves P s₀ (s.setNode n (some later)) := h.setNode hr ⟨rfl, rfl, .inl rfl⟩
  split
  · exact hlater
  next rp =>
  have back (ho : rp.outcome = .replyOk ∨ rp.outcome = .replyReject) :
      Moves P s₀ (((s.setNode n (some (r.probedBack rp.turn))).resumeNode n).pendNode n) :=
    ((h.setNode hr (q := r.probedBack rp.turn) ⟨rfl, rfl, .inr (hq rp rfl ho)⟩).resumeNode n).pendNode n
  split
  case h_1 ho => exact back (.inl ho)
  case h_2 ho => exact back (.inr ho)
  case h_3 => exact h.setNode hr ⟨rfl, rfl, .inl rfl⟩
  case h_4 => exact hlater

theorem reportTo (hP : P.write) (a : Attempt) {rep : Report} (hq : rep.Allowed P) : Moves P s₀ (s.reportTo a rep) := by
  unfold State.reportTo
  split
  · exact h.slotReport hP _ _ hq
  · exact h.pollReport _ _ hq
  · exact h.probeReport _ fun r hr => Option.some.inj hr ▸ hq

/-- A line is changed and its attempt ends: what stands of the line is what it is without the attempt. -/
theorem endAttempt_setLine {l : LineId} {y : Line} (ha : y.attempt = (s.line l).attempt)
    (hy : y.attempt = none → (s.line l).Moves P y) {dest : LineSt} (hd : dest = .guard ∨ dest = .settle ∨ dest = .fault)
    {rep : Report} (hq : rep.Allowed P) : Moves P s₀ ((s.setLine l y).endAttempt l rep dest) := by
  unfold State.endAttempt
  rw [State.line_setLine_self]
  split
  case h_1 hn => exact h.setLine (hy hn)
  case h_2 a ha' =>
    have hP : P.write := h.write_of_attempt (l := l) (by rw [← ha, ha']; simp)
    have hw : Moves P s₀ (s.setLine l (y.without dest)) := h.setLine (Line.Moves.without _ _ hd)
    rw [State.modLine, State.line_setLine_self, State.setLine_setLine]
    exact hw.reportTo hP a hq

theorem endAttempt (l : LineId) {rep : Report} (hq : rep.Allowed P) {dest : LineSt}
    (hd : dest = .guard ∨ dest = .settle ∨ dest = .fault) : Moves P s₀ (s.endAttempt l rep dest) := by
  unfold State.endAttempt
  split
  · exact h
  · next a ha =>
    have hP : P.write := h.write_of_attempt (l := l) (by rw [ha]; simp)
    exact (h.modLine (Line.Moves.without _ _ hd)).reportTo hP a hq

theorem cutShort (a : Attempt) (sent : Bool) : Moves P s₀ (s.cutShort a sent) := by
  unfold State.cutShort
  split
  · split
    case isTrue ha => exact h.complete (.of_attempt ha) _ _ _ _
    case isFalse => exact h
  · exact h.probeReport _ (by simp)
  · split
    · exact h
    · split
      · exact (h.setPoll _ _).modNode _ fun _ => ⟨rfl, rfl, .inl rfl⟩
      · exact h.setPoll _ _

/-! ### What comes about in the same step -/

theorem putResult (d : AdminDone) : Moves P s₀ (s.putResult d) :=
  Moves.modCq (s := { s with adminResult := some d }) (h.frame rfl) 0 ⟨.rfl, rfl, le_rfl, id⟩

theorem adminDone (tag : Nat) (st : Status) (v : Nat) (x : Option Health) : Moves P s₀ (s.adminDone tag st v x) :=
  Moves.putResult (s := { s with adminWork := none }) (h.frame rfl) _

theorem fail (r : List Byte) (st : Status) : Moves P s₀ (s.fail r st) := h.adminDone _ _ _ _
theorem done (r : List Byte) (v : Nat) : Moves P s₀ (s.done r v) := h.adminDone _ _ _ _
theorem await (r : List Byte) (x : Source) : Moves P s₀ (s.await r x) := h.frame rfl

theorem doneOrAwait (r : List Byte) {due : Bool} {close : State → State} (hc : due = true → Moves P s₀ (close s)) (v : Nat)
    (x : Source) : Moves P s₀ (s.doneOrAwait r due close v x) := by
  unfold State.doneOrAwait
  split
  case isTrue hd => exact (hc hd).done r v
  case isFalse => exact h.await r x

theorem sqAbsent {q : SqId} (hd : s.sqAbsentDue q = true) : Moves P s₀ (s.sqAbsent q) := by
  have h0 : s.occupied q = 0 := by
    obtain ⟨-, h0⟩ := Bool.and_eq_true_iff.mp hd
    exact beq_iff_eq.mp h0
  exact ((Moves.edit (t := s.setSq q Sq.absent) h (.sqGone s q h0) rfl rfl).unpend _).makeReady _

theorem cqAbsent {c : CqId} (hd : s.cqAbsentDue c = true) : Moves P s₀ (s.cqAbsent c) := by
  have hw : s.writingOn c = false := by
    obtain ⟨-, hw⟩ := Bool.and_eq_true_iff.mp hd
    exact Bool.not_eq_true' _ ▸ hw
  exact ((Moves.edit (t := s.setCq c Cq.absent) h (.cqGone s c hw) rfl rfl).unpend _).makeReady _

theorem lineOff (l : LineId) : Moves P s₀ (s.lineOff l) := ((h.modLine (Line.Moves.stopped _)).suspendLine l).makeReady _

theorem nodeVacant (n : NodeId) : Moves P s₀ (s.nodeVacant n) :=
  ((Moves.edit (t := s.setNode n none) h (.vacate s n) rfl rfl).unpend _).makeReady _

theorem pollEmpty (p : PollId) : Moves P s₀ (s.pollEmpty p) := by
  have hu : Moves P s₀ (((s.setPoll p none).unpend (.poll p)).makeReady (.poll p)) :=
    ((h.setPoll p none).unpend _).makeReady _
  unfold State.pollEmpty
  cases hw : s.writer with
  | none => exact hu.frame (by simp [State.core, State.makeReady, State.unpend, State.setPoll, hw])
  | some e => exact hu.edit (.writer _ (e.dropPoll p) hw (by unfold Entry.dropPoll; split <;> rfl)) rfl rfl

theorem closeObj (x : Source) : Moves P s₀ (s.closeObj x) := by
  cases x <;> simp only [State.closeObj] <;> split
  case sq.isTrue hd => exact h.sqAbsent hd
  case cq.isTrue hd => exact h.cqAbsent hd
  case line.isTrue => exact h.lineOff _
  case node.isTrue => exact h.nodeVacant _
  case poll.isTrue => exact h.pollEmpty _
  all_goals exact h

theorem closeWaiting : Moves P s₀ s.closeWaiting := h.foldl (fun _ x ht => ht.closeObj x) _

theorem closeAbort : Moves P s₀ s.closeAbort := by
  unfold State.closeAbort
  split
  · dsimp only
    split
    · exact h.adminDone _ _ _ _
    · exact h.frame rfl
  · exact h

theorem readyResult : Moves P s₀ s.readyResult := by
  unfold State.readyResult
  split
  · split
    · next rest _ => exact Moves.putResult (s := { s with ready := rest }) (h.frame rfl) _
    · exact h
  · exact h

theorem closing : Moves P s₀ s.closing := by
  unfold State.closing
  split
  · exact h.closeWaiting.closeAbort.readyResult
  · exact h

theorem settle (x : Source) : Moves P s₀ (s.settle x) := by
  unfold State.settle
  split
  · exact (h.closeObj x).readyResult
  · exact h

end Moves
end Sys2Proof.Machine

namespace Sys2Proof.Machine

/-! ### What the line unit does to one line (chapter 2) -/

/-- The fields of a line that its sanity reads. -/
def Line.vital (l : Line) : LineSt × StartPhase × Bool × Bool × Option Attempt × Bool :=
  (l.st, l.phase, l.driver, l.inChar, l.attempt, l.quietOn)

namespace Line.Moves
variable {P : Perm} {a : Line}

/-- A change that leaves the attempt alone moves the line when it keeps it sane. -/
theorem of_attempt {b : Line} (ha : b.attempt = a.attempt) (hs : a.Sane → b.Sane) : a.Moves P b :=
  ⟨hs, fun hb => .inl (ha ▸ hb)⟩

/-- A change of no field that a line's sanity reads. -/
theorem of_same {b : Line} (h : b.vital = a.vital) : a.Moves P b := by
  simp only [Line.vital, Prod.mk.injEq] at h
  obtain ⟨hst, hph, hd, hc, ha, hq⟩ := h
  exact of_attempt ha fun h => by simpa only [Line.Sane, hst, hph, hd, hc, ha, hq] using h

theorem startBit : a.Moves P a.startBit :=
  of_attempt rfl fun h => by simp only [Line.Sane, Line.startBit] at h ⊢; grind

theorem heard (hs : a.sendingNow = false) (n : Nat) : a.Moves P (a.heard n) :=
  of_attempt rfl fun h => by
    simp only [Line.sendingNow, Line.cutSending] at hs
    simp only [Line.Sane, Line.heard] at h ⊢; grind

theorem leavesIdle : a.Moves P a.leavesIdle :=
  of_attempt rfl fun h => by simp only [Line.Sane, Line.leavesIdle] at h ⊢; grind

theorem unstopped (hs : a.sendingNow = false) (b : Byte) (m : Bool) : a.Moves P (a.unstopped b m) :=
  (heard hs 0).trans (.of_same rfl)

theorem toGuard (hst : a.st = .idle ∨ a.st = .settle) : a.Moves P { a with st := .guard } :=
  of_attempt rfl fun h => by simp only [Line.Sane] at h ⊢; grind

/-- Within TX and the sending phase of STARTING the echo of a character changes nothing that matters. -/
theorem echoed (hst : a.st = .tx ∨ a.st = .starting ∧ a.phase = .sending) (e : Echo) : a.Moves P (a.echoed e) := by
  unfold Line.echoed Line.unstopped Line.heard
  split <;> [skip; split] <;> exact of_attempt rfl fun h => by simp only [Line.Sane] at h ⊢; grind

theorem nextChar : a.Moves P a.nextChar :=
  of_attempt rfl fun h => by simp only [Line.Sane, Line.nextChar] at h ⊢; grind

theorem enterWait (hst : a.st = .tx) : a.Moves P a.enterWait :=
  of_attempt rfl fun h => by simp only [Line.Sane, Line.enterWait] at h ⊢; grind

theorem cutEnds (hst : a.st = .off ∨ a.st = .starting ∧ a.phase ≠ .sending) (e : Echo) : a.Moves P (a.cutEnds e) := by
  unfold Line.cutEnds
  split
  · exact .refl a
  · split
    · exact of_attempt rfl fun h => by simp only [Line.Sane, Line.wire] at h ⊢; grind
    · unfold Line.echoed Line.unstopped Line.heard
      split <;> [skip; split] <;> exact of_attempt rfl fun h => by simp only [Line.Sane] at h ⊢; grind

/-- A line that waits is handed work; one in IDLE has its quiet timer stopped. -/
theorem take (hst : a.st = .idle) (hP : P.write) (x : Attempt) : a.Moves P (a.take x) :=
  ⟨fun h => by simp only [Line.Sane, Line.take] at h ⊢; grind, fun _ => .inr hP⟩

theorem guardDone (hg : a.guardReached = true) : a.Moves P a.guardDone := by
  have hq : a.quietOn = false := by simp [Line.guardReached, Line.guardRuns] at hg; exact hg.1.1
  unfold Line.guardDone
  split
  case h_1 ha =>
    exact of_attempt rfl fun h => by simp only [Line.Sane, Line.enterTx, ha] at h ⊢; grind
  case h_2 hst ha => exact of_attempt rfl fun h => by simp only [Line.Sane, hst, ha] at h ⊢; grind
  case h_3 hst =>
    split
    · exact of_attempt rfl fun h => by simp only [Line.Sane, Line.enterSending, hst] at h ⊢; grind
    · exact .refl a
  case h_4 => exact .refl a

theorem begins : a.Moves P a.begins := by
  unfold Line.begins
  split
  · exact of_attempt rfl fun h => by simp only [Line.Sane, Line.enterTx] at h ⊢; grind
  · exact .refl a

theorem pass (n : Nat) : a.Moves P (a.pass n) := by
  unfold Line.pass Line.passBits
  dsimp only
  split <;> exact .of_same rfl

theorem recover (hst : a.st = .fault) : a.Moves P a.recover :=
  of_attempt rfl fun h => by simp only [Line.Sane, Line.recover] at h ⊢; grind

theorem quietEnds : a.Moves P a.quietEnds :=
  of_attempt rfl fun h => by simp only [Line.Sane, Line.quietEnds] at h ⊢; grind

theorem gapWaitOver (hph : a.phase = .clashed) : a.Moves P { a with phase := .guardWait } :=
  of_attempt rfl fun h => by simp only [Line.Sane] at h ⊢; grind

theorem start (hst : a.st = .off) : a.Moves P a.start :=
  ⟨fun h => by simp only [Line.Sane, Line.start, Line.offWith] at h ⊢; grind, fun hn => absurd rfl hn⟩

/-- A break leaves a line without an attempt in FAULT. -/
theorem enterFault (ha : a.attempt = none) : a.Moves P a.enterFault :=
  of_attempt rfl fun _ => by simp [Line.Sane, Line.enterFault, Line.without, ha]

theorem cleared : a.Moves P a.cleared := ⟨fun _ => by simp [Line.Sane, Line.cleared, Line.offWith], fun hn => absurd rfl hn⟩

theorem toOff : a.Moves P a.toOff := ⟨fun _ => by simp [Line.Sane, Line.toOff, Line.offWith], fun hn => absurd rfl hn⟩

end Line.Moves
end Sys2Proof.Machine

namespace Sys2Proof.Machine

theorem Report.allowed_plain {P : Perm} {o : Outcome} (h : o ≠ .replyOk ∧ o ≠ .replyReject) (sent : Bool) :
    (Report.plain o sent).Allowed P := fun ho => ho.elim (fun e => absurd e h.1) fun e => absurd e h.2

@[simp] theorem Line.st_echoed (a : Line) (e : Echo) : (a.echoed e).st = a.st := by
  unfold Line.echoed; split <;> [rfl; (dsimp only; split <;> rfl)]
@[simp] theorem Line.attempt_echoed (a : Line) (e : Echo) : (a.echoed e).attempt = a.attempt := by
  unfold Line.echoed; split <;> [rfl; (dsimp only; split <;> rfl)]
@[simp] theorem Line.st_startQuiet (a : Line) : a.startQuiet.st = a.st := by unfold Line.startQuiet; split <;> rfl
@[simp] theorem Line.attempt_startQuiet (a : Line) : a.startQuiet.attempt = a.attempt := by
  unfold Line.startQuiet; split <;> rfl
@[simp] theorem Line.attempt_clashed (a : Line) (e : Echo) : (a.clashed e).attempt = a.attempt := by
  unfold Line.clashed; split <;> rfl

namespace Line.Moves
variable {P : Perm} {a : Line}

/-- The echo of a sent RESYNC character that is not the one sent ends the sending. -/
theorem resyncClash (hst : a.st = .starting) (e : Echo) :
    a.Moves P { a.clashed e with driver := false, txPos := 0, phase := .clashed } := by
  unfold Line.clashed
  split <;> exact of_attempt rfl fun h => by simp only [Line.Sane] at h ⊢; grind

/-- The RESYNC sent whole is followed by the quiet time, or by GUARD where there is none. -/
theorem resyncSent (hst : a.st = .starting) :
    let z := { a.startQuiet with driver := false, txPos := 0, phase := .quiet }
    a.Moves P (if z.quietOn then z else { z with st := .guard }) := by
  intro z
  have hz : z.st = .starting := (Line.st_startQuiet a).trans hst
  have hza : z.attempt = a.attempt := a.attempt_startQuiet
  have hd : z.driver = false := rfl
  split <;> exact of_attempt hza fun h => by simp only [Line.Sane] at h ⊢; grind

/-- The first character of the reply: WAIT becomes RX. -/
theorem waitToRx (hst : a.st = .wait) (b : List Byte) (n t u : Nat) :
    a.Moves P { a with st := .rx, rxBuf := b, rxCount := n, respT := t, turn := u, foreign := false } :=
  of_attempt rfl fun h => by simp only [Line.Sane] at h ⊢; grind

/-- A frame in assembly is given up: RX becomes WAIT. -/
theorem rxToWait (hst : a.st = .rx) (f : Bool) :
    a.Moves P { a with st := .wait, rxBuf := [], rxCount := 0, foreign := f } :=
  of_attempt rfl fun h => by simp only [Line.Sane] at h ⊢; grind

end Line.Moves

@[simp] theorem State.lines_promoteNode (s : State) (l : LineId) (n : NodeId) : (s.promoteNode l n).lines = s.lines := by
  unfold State.promoteNode; split <;> [split; skip] <;> rfl

/-- A transaction that is a candidate is PENDING (R95, R96). -/
theorem State.isPending_of_cand {s : State} {l : LineId} {c : Cand} {i : SlotId} (hc : c ∈ s.candidates l)
    (hw : c.work = .txn i) : s.isPending i = true := by
  have head {p : Nat} {j : SlotId} (hj : s.headCand p j = some c) : s.isPending i = true := by
    unfold State.headCand at hj
    split at hj
    · next x hx =>
      split at hj
      · next hst => cases hj; cases hw; simp [State.isPending, hx, hst]
      · cases hj
    · cases hj
  simp only [State.candidates, List.mem_append, Option.mem_toList, List.mem_filterMap] at hc
  rcases hc with ((hc | ⟨n, -, hc⟩) | ⟨p, -, hc⟩) | ⟨n, -, hc⟩
  · unfold State.lineListCand at hc
    split at hc
    · exact head hc
    · cases hc
  · unfold State.hostCand at hc
    repeat' split at hc
    all_goals first | cases hc | exact head hc
  · unfold State.pollCand at hc
    repeat' split at hc
    all_goals cases hc
    all_goals cases hw
  · unfold State.probeCand at hc
    repeat' split at hc
    all_goals cases hc
    all_goals cases hw

/-- What the scheduler chooses is a candidate. -/
theorem State.choose_mem {s : State} {l : LineId} {c : Cand} (h : s.choose l = some c) : c ∈ s.candidates l := by
  have pick {k : Nat} {f : Cand → Nat} (hk : pickMin f ((s.candidates l).filter (·.cls == k)) = some c) :
      c ∈ s.candidates l := (List.mem_filter.mp (pickMin_some hk).1).1
  simp only [State.choose, Option.or_eq_some_iff] at h
  rcases h with h | ⟨-, h | ⟨-, h | ⟨-, h⟩⟩⟩ <;> exact pick h

namespace Moves
variable {P : Perm} {s₀ s : State} (h : Moves P s₀ s)
include h

/-! ### Events of a line unit (chapter 2) -/

theorem startBitOn (l : LineId) : Moves P s₀ (s.startBitOn l) := by
  unfold State.startBitOn
  split
  · exact h
  · split
    · exact h.modLine (.of_same rfl)
    · exact h.modLine .startBit

theorem txChar (hP : P.seq) {l : LineId} {a : Attempt} (hst : (s.line l).st = .tx) (ha : (s.line l).attempt = some a)
    (echo : Echo) : Moves P s₀ (s.txChar l a echo) := by
  have he : (s.line l).Moves P ((s.line l).echoed echo) := .echoed (.inl hst) echo
  unfold State.txChar
  extract_lets x y
  split
  · split
    · exact h.setLine (he.trans .nextChar)
    · split
      · exact h.setLine (he.trans (.enterWait (by simp [hst])))
      · exact h.endAttempt_setLine (by simp [y, x]) (by simp [y, x, ha]) (.inl rfl) fun _ => hP
  · exact h.endAttempt_setLine (by simp [y, x]) (by simp [y, x, ha]) (.inr (.inl rfl)) (Report.allowed_plain (by decide) _)

theorem resyncChar (hP : P.seq) {l : LineId} (hst : (s.line l).st = .starting) (hph : (s.line l).phase = .sending)
    (echo : Echo) : Moves P s₀ (s.resyncChar l echo) := by
  have he : (s.line l).Moves P ((s.line l).echoed echo) := .echoed (.inr ⟨hst, hph⟩) echo
  have hst' : ((s.line l).echoed echo).st = .starting := by simp [hst]
  unfold State.resyncChar
  extract_lets x y
  split
  · split
    · exact h.setLine (he.trans .nextChar)
    · exact (h.setLine (he.trans (.resyncSent hst'))).zeroSeq hP l
  · exact h.setLine (he.trans (.resyncClash hst' echo))

theorem charSent (hP : P.seq) (l : LineId) (echo : Echo) : Moves P s₀ (s.charSent l echo) := by
  unfold State.charSent
  extract_lets x
  split
  · next hst => exact h.setLine (.cutEnds (.inl hst) echo)
  · next hst ha => exact h.txChar hP hst ha echo
  · next hst =>
    split
    case isTrue hph => exact h.resyncChar hP hst hph echo
    case isFalse hph => exact h.setLine (.cutEnds (.inr ⟨hst, hph⟩) echo)
  · exact h

theorem waitChar {l : LineId} (hst : (s.line l).st = .wait) (a : Attempt) (byte : Byte) (mark : Bool) :
    Moves P s₀ (s.waitChar l a byte mark) := by
  unfold State.waitChar
  extract_lets x limit
  split
  · exact h.setLine (.waitToRx hst _ _ _ _)
  · split
    · exact h.endAttempt l (Report.allowed_plain (by decide) _) (.inl rfl)
    · split
      · exact h.setLine (.of_same rfl)
      · exact h

theorem frameDone (hP : P.seq) {l : LineId} (hst : (s.line l).st = .rx) (a : Attempt) (buf : List Byte) :
    Moves P s₀ (s.frameDone l a buf) := by
  unfold State.frameDone
  split
  · exact h.modLine (.rxToWait hst _)
  · exact h.endAttempt l (fun _ => hP) (.inl rfl)

theorem rxChar (hP : P.seq) {l : LineId} (hst : (s.line l).st = .rx) (a : Attempt) (byte : Byte) (mark : Bool) :
    Moves P s₀ (s.rxChar l a byte mark) := by
  unfold State.rxChar
  extract_lets x buf
  split
  · split
    · exact h.setLine (.of_same rfl)
    · exact h.setLine (.rxToWait hst _)
  · split
    · exact h.frameDone hP hst a buf
    · exact h.setLine (.of_same rfl)

theorem receive (hP : P.seq) (l : LineId) (byte : Byte) (last : CharEnd) : Moves P s₀ (s.receive l byte last) := by
  unfold State.receive
  extract_lets x s1
  split
  · exact h
  next hs =>
  have hs : x.sendingNow = false := by simpa using hs
  have hs1 : Moves P s₀ s1 := h.setLine (.heard hs _)
  have hst1 : (s1.line l).st = x.st := by simp [s1, Line.heard]
  split
  · exact h.setLine (.of_same rfl)
  split
  · exact h.setLine ((Line.Moves.unstopped hs _ _).trans .leavesIdle)
  split
  · next hst => exact hs1.modLine (.toGuard (.inl (hst1.trans hst)))
  · next hst _ => exact hs1.waitChar (hst1.trans hst) _ _ _
  · next hst _ => exact hs1.rxChar hP (hst1.trans hst) _ _ _
  · exact hs1

theorem missingStop (l : LineId) : Moves P s₀ (s.missingStop l) := by
  unfold State.missingStop
  extract_lets x s1
  split
  · exact h
  next hs =>
  have hs : x.sendingNow = false := by simpa using hs
  have hs1 : Moves P s₀ s1 := h.setLine (.heard hs _)
  have hst1 : (s1.line l).st = x.st := by simp [s1, Line.heard]
  split
  · exact h.setLine (.of_same rfl)
  split
  · next hst => exact hs1.modLine (.toGuard (.inl (hst1.trans hst)))
  · exact hs1.endAttempt l (Report.allowed_plain (by decide) _) (.inr (.inl rfl))
  · exact hs1.endAttempt l (Report.allowed_plain (by decide) _) (.inr (.inl rfl))
  · exact hs1

theorem guardTime (l : LineId) : Moves P s₀ (s.guardTime l) := by
  unfold State.guardTime
  extract_lets x
  split
  case isTrue hg => obtain ⟨-, hg⟩ := Bool.and_eq_true_iff.mp hg; exact h.modLine (.guardDone hg)
  case isFalse => exact h

theorem guardWait (l : LineId) : Moves P s₀ (s.guardWait l) := by
  unfold State.guardWait
  extract_lets x
  split
  · split
    · exact h.endAttempt l (Report.allowed_plain (by decide) _) (.inl rfl)
    · exact h
  · exact h

theorem gapPassed (l : LineId) : Moves P s₀ (s.gapPassed l) := by
  unfold State.gapPassed
  extract_lets x
  split
  case isFalse => exact h
  split
  case h_1 => exact h.endAttempt l (Report.allowed_plain (by decide) _) (.inl rfl)
  case h_2 => exact h.modLine (.of_same rfl)
  case h_3 hst => exact h.modLine (.toGuard (.inr hst))
  case h_4 =>
    split
    case isTrue hph => exact h.modLine (.gapWaitOver hph)
    case isFalse => exact h
  case h_5 => exact h

theorem respTimeout (l : LineId) : Moves P s₀ (s.respTimeout l) := by
  unfold State.respTimeout
  extract_lets x
  split
  · split
    · exact h.endAttempt l (Report.allowed_plain (by decide) _) (.inl rfl)
    · exact h
  · exact h

theorem breakSeen (l : LineId) : Moves P s₀ (s.breakSeen l) := by
  unfold State.breakSeen State.breakLine
  split
  · extract_lets x
    split
    · exact h
    · exact (h.endAttempt_setLine (y := x.enterFault) rfl (fun hn => .enterFault hn) (.inr (.inr rfl))
        (Report.allowed_plain (by decide) _)).pend _
  · exact h

theorem faultEnds (l : LineId) : Moves P s₀ (s.faultEnds l) := by
  unfold State.faultEnds
  extract_lets x
  split
  case isTrue hx => obtain ⟨hst, -⟩ := hx; exact (h.modLine (.recover hst)).pend _
  case isFalse => exact h

theorem quietExpired (l : LineId) : Moves P s₀ (s.quietExpired l) := by
  unfold State.quietExpired
  extract_lets x
  split
  · exact h.modLine .quietEnds
  · exact h

/-! ### The scheduler (chapter 5) -/

theorem promoteNode (l : LineId) (n : NodeId) : Moves P s₀ (s.promoteNode l n) := by
  unfold State.promoteNode
  split
  · split
    · exact h.modNode n fun _ => ⟨rfl, rfl, .inl rfl⟩
    · exact h
  · exact h

theorem promote (l : LineId) : Moves P s₀ (s.promote l) := h.foldl (fun _ n ht => ht.promoteNode l n) _

theorem openX (n : NodeId) (x : Option OpenX) : Moves P s₀ (s.modNode n fun r => { r with openX := x }) :=
  h.modNode n fun _ => ⟨rfl, rfl, .inl rfl⟩

theorem handTxn (hP : P.write) {l : LineId} {i : SlotId} (hst : (s.line l).st = .idle) (hi : s.NotHeld i) :
    Moves P s₀ (s.handTxn l i) := by
  have given (u : Txn) : Moves P s₀ ((s.modTxn i fun _ => u).modSlot i fun x => { x with st := .active }) :=
    (h.modTxn hi _).modSlot (hi.modTxn _) fun _ => rfl
  unfold State.handTxn
  split
  · extract_lets cfg
    split
    · split
      · exact ((given _).openX _ _).modLine (.take hst hP _)
      · exact h
    · exact (given _).modLine (.take hst hP _)
  · exact h

theorem handPoll (hP : P.write) {l : LineId} (hst : (s.line l).st = .idle) (p : PollId) : Moves P s₀ (s.handPoll l p) := by
  unfold State.handPoll
  split
  · exact h
  split
  · exact h
  extract_lets cfg
  split
  · exact ((h.setPoll p _).openX _ _).modLine (.take hst hP _)
  · exact (h.setPoll p _).modLine (.take hst hP _)

theorem handProbe (hP : P.write) {l : LineId} (hst : (s.line l).st = .idle) (n : NodeId) : Moves P s₀ (s.handProbe l n) := by
  unfold State.handProbe
  split
  · exact h
  · next r hr =>
    exact (h.setNode hr (q := { r with probeDue := false, promoted := false }) ⟨rfl, rfl, .inl rfl⟩).modLine
      (.take hst hP _)

theorem handOver (hP : P.write) {l : LineId} {c : Cand} (hst : (s.line l).st = .idle)
    (hc : ∀ i, c.work = .txn i → s.NotHeld i) : Moves P s₀ (s.handOver l c) := by
  unfold State.handOver
  split
  · next i hw => exact (h.handTxn hP hst (hc i hw)).modSched _ _
  · exact (h.handPoll hP hst _).modSched _ _
  · exact (h.handPoll hP hst _).modSched _ _
  · exact (h.handProbe hP hst _).modSched _ _

theorem schedule (l : LineId) : Moves P s₀ (s.schedule l) := by
  unfold State.schedule
  split
  case isFalse => exact h
  next hw =>
  obtain ⟨hw, hst⟩ := Bool.and_eq_true_iff.mp hw
  have hP := h.working hw
  extract_lets s1
  have hst1 : (s1.line l).st = .idle := by
    have hl : s1.lines = s.lines := State.lines_foldl (fun t n => t.lines_promoteNode l n) _ s
    simpa only [State.line, hl, beq_iff_eq] using hst
  split
  · next c hc =>
    exact (h.promote l).handOver hP hst1 fun i hi => .of_pending (State.isPending_of_cand (State.choose_mem hc) hi)
  · exact h.promote l

end Moves
end Sys2Proof.Machine

namespace Sys2Proof.Machine

theorem State.NotHeld.modSlot {s : State} {i : SlotId} (h : s.NotHeld i) {f : Slot → Slot}
    (hf : ∀ x, x.st ≠ .held → (f x).st ≠ .held) : (s.modSlot i f).NotHeld i := by
  intro x hx
  rw [State.slot_modSlot, if_pos rfl] at hx
  obtain ⟨y, hy, rfl⟩ := Option.map_eq_some_iff.mp hx
  exact hf y (h y hy)

theorem State.NotHeld.of_fetching {s : State} {i : SlotId} (h : s.fetching i = true) : s.NotHeld i := fun x hx => by
  simp only [State.fetching, hx, beq_iff_eq] at h; simp [h]

/-- A deadline that may expire is that of a slot that is PENDING or ACTIVE (R83). -/
theorem State.NotHeld.of_deadline {s : State} {i : SlotId} {w : Word} (h : s.deadlineOf i = some w) : s.NotHeld i := by
  intro x hx
  unfold State.deadlineOf at h
  split at h
  · next e => cases hx.symm.trans e; exact SlotSt.noConfusion
  · next e => cases hx.symm.trans e; exact SlotSt.noConfusion
  · cases h

/-- The fetch engine's choice is eligible. -/
theorem State.chooseSq_eligible {s : State} {q : SqId} (h : s.chooseSq = some q) : ∃ cls, s.eligible cls q = true := by
  simp only [State.chooseSq, Option.or_eq_some_iff] at h
  rcases h with h | ⟨-, h⟩ <;> exact ⟨_, (List.mem_filter.mp (pickMin_some h).1).2⟩

theorem Cq.ring_made (base : Word) {size : Nat} (hs : 2 ≤ size) (irq : Bool) (threshold delay : Nat) :
    (Cq.made base size irq threshold delay).Ring :=
  ⟨hs, show 0 < size by omega, (Nat.zero_mod size).symm, Nat.zero_le _⟩

/-- A new head within the unreleased entries leaves a ring (R137). -/
theorem Cq.Ring.released {d : Cq} (h : d.Ring) {head : Nat} (hh : head < d.size) (hr : d.released head ≤ d.unreleased) :
    { d with head := head, unreleased := d.unreleased - d.released head }.Ring := by
  obtain ⟨hs, hd, ht, hu⟩ := h
  refine ⟨hs, hh, ?_, by dsimp only; omega⟩
  have hm : (d.head + d.released head) % d.size = head := by
    rw [Cq.released, Nat.add_mod_mod, show d.head + (head + d.size - d.head) = head + d.size by omega, Nat.add_mod_right,
      Nat.mod_eq_of_lt hh]
  calc d.tail = (d.head + d.unreleased) % d.size := ht
    _ = (d.head + d.released head + (d.unreleased - d.released head)) % d.size := by congr 1; omega
    _ = (head + (d.unreleased - d.released head)) % d.size := by rw [Nat.add_mod, hm, Nat.add_mod_mod]

namespace Moves
variable {P : Perm} {s₀ s : State} (h : Moves P s₀ s)
include h

theorem setSlot_none {i : SlotId} (hi : s.NotHeld i ∨ P.free) : Moves P s₀ (s.setSlot i none) :=
  h.edit (.free s i hi) rfl rfl

/-! ### Fetches (sections 4.2 and 7.2) -/

theorem startFetch {q : SqId} {i : SlotId} (hq : s.occupied q < (s.sq q).quota) (hi : s.slot i = none) :
    Moves P s₀ (s.startFetch q i) :=
  Moves.frame (s := s.setSlot i (some (Slot.reserved q (s.sq q).cls))) (h.edit (.reserve s i _ hi hq) rfl rfl) rfl

theorem fetchNext : Moves P s₀ s.fetchNext := by
  unfold State.fetchNext
  split
  case h_2 => exact h
  next hq hi =>
  obtain ⟨cls, hq⟩ := State.chooseSq_eligible hq
  obtain ⟨-, -, -, -, hq, -⟩ := State.eligible_iff.mp hq
  exact h.startFetch hq (State.freeSlot_some hi)

theorem joinList (i : SlotId) (t : Txn) : Moves P s₀ (s.joinList i t) := by
  unfold State.joinList
  split
  · split
    · exact h.modNode _ fun _ => ⟨rfl, rfl, .inl rfl⟩
    · exact h
  · exact h.modSched _ _

theorem refuse {i : SlotId} (hi : s.NotHeld i) (r : List Byte) (t : Option Txn) (st : Status) (x : Option Health) :
    Moves P s₀ (s.refuse i r t st x) :=
  (h.modSlot hi (f := fun x => { x with tag := recTag r, txn := t }) fun _ => rfl).enterHeld (hi.modSlot fun _ => id) _

theorem acceptRecord {i : SlotId} (hi : s.NotHeld i) (q : SqId) (r : List Byte) (t : Txn) :
    Moves P s₀ (s.acceptRecord i q r t) := by
  unfold State.acceptRecord
  extract_lets s1
  have hs1 : Moves P s₀ s1 := h.modSlot hi fun _ => rfl
  have hi1 : s1.NotHeld i := hi.modSlot fun _ => id
  split
  · exact hs1.enterHeld hi1 _
  · exact Moves.joinList (hs1.modSlot hi1 (f := fun x => { x with st := .pending }) fun _ => rfl) i t

theorem judge {i : SlotId} (hi : s.NotHeld i) (q : SqId) (r data : List Byte) : Moves P s₀ (s.judge i q r data) := by
  unfold State.judge
  split
  · extract_lets t
    split
    · exact h.refuse hi _ _ _ _
    · split
      · exact h.refuse hi _ _ _ _
      · exact h.acceptRecord hi _ _ _
  · exact h.refuse hi _ _ _ _

theorem validate {f : Fetch} (hi : s.NotHeld f.slot) (r data : List Byte) : Moves P s₀ (s.validate f r data) := by
  have h0 : Moves P s₀ { s with fetch := none, quRead := none } := h.frame rfl
  exact Moves.judge (h0.modSq f.sq (f := Sq.advanced) ⟨rfl, id⟩) hi _ _ _

theorem recordRead (r : List Byte) : Moves P s₀ (s.recordRead r) := by
  unfold State.recordRead
  split
  · split
    · exact h
    · next hf =>
      split
      · exact h.validate (.of_fetching (by simpa using hf)) _ _
      · exact h.frame rfl
  · exact h

theorem dataRead (bytes : List Byte) : Moves P s₀ (s.dataRead bytes) := by
  unfold State.dataRead
  split
  · split
    · exact h
    · next hf => exact h.validate (.of_fetching (by simpa using hf)) _ _
  · exact h

theorem stall (q : SqId) : Moves P s₀ (s.modSq q fun x => { x with st := .stalled }) :=
  h.modSq q ⟨rfl, fun e => nomatch e⟩

theorem readErrorOn (q : SqId) : Moves P s₀ (s.readErrorOn q) := by
  unfold State.readErrorOn
  split
  · exact h
  · exact (h.stall q).pendSq q _

theorem fetchFailed : Moves P s₀ s.fetchFailed := by
  unfold State.fetchFailed
  split
  · next f _ _ _ =>
    split
    · exact h
    · next hf =>
      have h0 : Moves P s₀ { s with fetch := none, quRead := none } := h.frame rfl
      have hi : s.NotHeld f.slot := .of_fetching (by simpa using hf)
      exact (Moves.readErrorOn (h0.setSlot_none (.inl hi)) f.sq).closing
  · exact h

theorem adminFetch : Moves P s₀ s.adminFetch := by
  unfold State.adminFetch
  split
  · exact h.frame rfl
  · exact h

theorem adminFetchFailed : Moves P s₀ s.adminFetchFailed := by
  unfold State.adminFetchFailed
  split
  · have h0 : Moves P s₀ { s with adRead := none } := h.frame rfl
    exact ((h0.stall 0).pendSq 0 _).closing
  · exact h

/-! ### The administrative commands (chapter 9) -/

theorem take {f : State → State} (hf : ∀ t, P.write → Moves P s₀ t → Moves P s₀ (f t)) : Moves P s₀ (s.take f) := by
  unfold State.take
  split
  · next hr =>
    simp only [State.adminReading, Bool.and_eq_true] at hr
    obtain ⟨⟨hw, -⟩, -⟩ := hr
    have h0 : Moves P s₀ { s with adRead := none } := h.frame rfl
    exact (hf _ (h.working hw) (h0.modSq 0 (f := Sq.advanced) ⟨rfl, id⟩)).closing
  · exact h

theorem createCq (r : List Byte) : Moves P s₀ (s.createCq r) := by
  unfold State.createCq
  split
  · exact h.fail r _
  split
  · exact h.fail r _
  next c _ hb =>
  split
  · exact h.fail r _
  next hst =>
  have hs : 2 ≤ parSize r := by
    simp only [sizeOk_false, not_or, not_not] at hb
    exact hb.2.1.1
  have made := Cq.ring_made (parBase r) hs (recOption r) (parThreshold r) (parDelay r)
  exact Moves.done (h.edit (.cqMade s c _ (.inl (not_not.mp hst)) made) rfl rfl) r _

theorem deleteCq (r : List Byte) : Moves P s₀ (s.deleteCq r) := by
  unfold State.deleteCq
  split
  · exact h.fail r _
  next c _ =>
  split <;> [exact h.fail r _; skip]
  split <;> [exact h.fail r _; skip]
  next hst =>
  split <;> [exact h.fail r _; skip]
  split <;> [exact h.fail r _; skip]
  split <;> [exact h.fail r _; skip]
  extract_lets s1
  have hs1 : Moves P s₀ s1 := h.modCq c ⟨⟨fun e => (nomatch e), fun e => absurd e hst⟩, rfl, le_rfl, id⟩
  exact hs1.doneOrAwait r hs1.cqAbsent _ _

theorem tuneCq (r : List Byte) : Moves P s₀ (s.tuneCq r) := by
  unfold State.tuneCq
  split
  · exact h.fail r _
  split <;> [exact h.fail r _; skip]
  split <;> [exact h.fail r _; skip]
  split <;> [exact h.fail r _; skip]
  exact (h.modCq _ (f := (·.tuned _ _ _)) ⟨.rfl, rfl, le_rfl, id⟩).done r _

theorem createSq (r : List Byte) : Moves P s₀ (s.createSq r) := by
  unfold State.createSq
  split
  case h_2 => exact h.fail r _
  next q _ _ _ _ _ =>
  split <;> [exact h.fail r _; skip]
  split <;> [exact h.fail r _; skip]
  next hst =>
  split <;> [exact h.fail r _; skip]
  split <;> [exact h.fail r _; skip]
  exact Moves.done (h.edit (.sqMade s q (Sq.made _ _ _ _ _) (not_not.mp hst) fun e => nomatch e) rfl rfl) r _

theorem deleteSq (r : List Byte) : Moves P s₀ (s.deleteSq r) := by
  unfold State.deleteSq
  split
  · exact h.fail r _
  next q _ =>
  split <;> [exact h.fail r _; skip]
  split <;> [exact h.fail r _; skip]
  split <;> [exact h.fail r _; skip]
  extract_lets s1
  have deleting : Moves P s₀ (s.modSq q fun d => { d with st := .deleting }) := h.modSq q ⟨rfl, fun e => nomatch e⟩
  have hs1 : Moves P s₀ s1 := deleting.foldl (fun _ i ht => ht.abortSlot i) _
  exact hs1.doneOrAwait r hs1.sqAbsent _ _

theorem setNoticeQueue (r : List Byte) : Moves P s₀ (s.setNoticeQueue r) := by
  unfold State.setNoticeQueue
  split
  · exact h.fail r _
  next c _ =>
  split <;> [exact h.fail r _; skip]
  split <;> [exact h.fail r _; skip]
  exact Moves.done (s := { s with noticeCq := c }) (h.frame rfl) r _

theorem configureLine (r : List Byte) : Moves P s₀ (s.configureLine r) := by
  unfold State.configureLine
  split
  · exact h.fail r _
  split <;> [exact h.fail r _; skip]
  split <;> [exact h.fail r _; skip]
  exact (h.modLine (f := fun x => { x with cfg := parCfg r }) (.of_same rfl)).done r _

theorem startLine (r : List Byte) : Moves P s₀ (s.startLine r) := by
  unfold State.startLine
  split
  · exact h.fail r _
  split <;> [exact h.fail r _; skip]
  next hst => exact ((h.modLine (.start (not_not.mp hst))).resumeLine _).done r _

theorem stopDraining (r : List Byte) : Moves P s₀ (s.stopDraining r) := by
  unfold State.stopDraining
  split
  · exact h.fail r _
  next l _ =>
  extract_lets s1
  have hs1 : Moves P s₀ s1 := h.modLine (.of_same rfl)
  split <;> [exact h.fail r _; skip]
  split <;> [exact h.fail r _; skip]
  split <;> [exact h.fail r _; skip]
  exact hs1.doneOrAwait r (fun _ => hs1.lineOff l) _ _

theorem disableSlot (n : NodeId) (i : SlotId) : Moves P s₀ (s.disableSlot n i) := by
  unfold State.disableSlot
  split
  case isTrue hp => exact h.complete (.of_pending hp) _ _ _ _
  case isFalse =>
    split
    case isTrue ha => exact (h.modTxn (.of_attempt ha) _).modNode n fun _ => ⟨rfl, rfl, .inl rfl⟩
    case isFalse => exact h

theorem disableNode (n : NodeId) : Moves P s₀ (s.disableNode n) := by
  unfold State.disableNode
  split
  · exact h
  next r hr =>
  extract_lets s1
  have hs1 : Moves P s₀ s1 := h.setNode hr ⟨rfl, rfl, .inl rfl⟩
  have disabled := hs1.foldl (fun _ i ht => ht.disableSlot n i) r.pendingList
  exact (disabled.modNode n (f := Node.released) fun _ => ⟨rfl, rfl, .inl rfl⟩).suspendNode n

theorem requestNode (hP : P.seq) (n : NodeId) (disable : Bool) : Moves P s₀ (s.requestNode n disable) := by
  unfold State.requestNode
  split
  · exact h
  · split
    · split
      · exact h
      · exact h.disableNode n
    · split
      · exact (h.modNode n (f := fun r => { r with health := .unknown, seq := false, failures := 0 })
          fun _ => ⟨rfl, rfl, .inr hP⟩).resumeNode n
      · exact h

theorem setNodeCmd (hP : P.seq) (r : List Byte) : Moves P s₀ (s.setNodeCmd r) := by
  unfold State.setNodeCmd
  split
  case h_2 => exact h.fail r _
  split
  · split
    · exact h.fail r _
    · exact Moves.adminDone ((h.modNode _ (f := (·.settings r)) fun _ => ⟨rfl, rfl, .inl rfl⟩).requestNode hP _ _) _ _ _ _
  · next l _ _ _ hf =>
    split
    · next n _ => exact Moves.adminDone (h.edit (.create s n (Node.create l r) hf hP) rfl rfl) _ _ _ _
    · exact h.fail r _

theorem removeMark (n : NodeId) : Moves P s₀ (s.removeMark n) := by
  unfold State.removeMark
  split
  · exact h
  · next r hr =>
    exact (h.setNode hr (q := { r with removal := true }) ⟨rfl, rfl, .inl rfl⟩).foldl (fun _ i ht => ht.abortSlot i) _

theorem removeNodeCmd (r : List Byte) : Moves P s₀ (s.removeNodeCmd r) := by
  unfold State.removeNodeCmd
  split
  case h_2 => exact h.fail r _
  split
  · exact h.fail r _
  next n _ =>
  split <;> [exact h.fail r _; skip]
  split <;> [exact h.fail r _; skip]
  extract_lets s1
  have hs1 : Moves P s₀ s1 := h.removeMark n
  exact hs1.doneOrAwait r (fun _ => hs1.nodeVacant n) _ _

theorem imageWrite (hP : P.write) (w : BusWrite) (k : InWork) :
    Moves P s₀ { s with adWrite := some w, adminWork := some k } :=
  Moves.frame (h.edit (.writes s s.quWrites (some w) s.nuWrite (.inr hP)) rfl rfl) rfl

theorem readNodeCmd (hP : P.write) (r : List Byte) : Moves P s₀ (s.readNodeCmd r) := by
  unfold State.readNodeCmd
  split
  case h_2 => exact h.fail r _
  split
  · exact h.fail r _
  split
  · next n _ _ x hx =>
    have cleared : Moves P s₀ (s.setNode n (some (if recOption r then x.cleared else x))) :=
      h.setNode hx (by split <;> exact ⟨rfl, rfl, .inl rfl⟩)
    exact cleared.imageWrite hP _ _
  · exact h.fail r _

theorem makePoll (np : NewPoll) (data : List Byte) : Moves P s₀ (s.makePoll np data) := h.setPoll _ _

theorem addPollCmd (r : List Byte) : Moves P s₀ (s.addPollCmd r) := by
  unfold State.addPollCmd
  split
  case h_2 => exact h.fail r _
  split <;> [exact h.fail r _; skip]
  split
  · exact h.fail r _
  split <;> [exact h.fail r _; skip]
  split
  · exact (h.makePoll _ _).done r _
  · exact h.frame rfl

theorem removePollCmd (r : List Byte) : Moves P s₀ (s.removePollCmd r) := by
  unfold State.removePollCmd
  split
  · exact h.fail r _
  next p _ =>
  split <;> [exact h.fail r _; skip]
  extract_lets s1
  have hs1 : Moves P s₀ s1 := ((h.withdraw p).unpend _).modPoll p _
  exact hs1.doneOrAwait r (fun _ => hs1.pollEmpty p) _ _

theorem readPollCmd (hP : P.write) (r : List Byte) : Moves P s₀ (s.readPollCmd r) := by
  unfold State.readPollCmd
  split
  · exact h.fail r _
  split
  · exact h.fail r _
  · exact (h.setPoll _ _).imageWrite hP _ _

theorem abortMatched (r : List Byte) (l : List SlotId) : Moves P s₀ (s.abortMatched r l) :=
  Moves.frame (s := l.foldl State.abortSlot s) (h.foldl (fun _ i ht => ht.abortSlot i) l) rfl

theorem abortTag (r : List Byte) : Moves P s₀ (s.abortTag r) := by
  unfold State.abortTag
  split
  · split
    · exact h.fail r _
    · exact h.abortMatched r _
  · exact h.fail r _

theorem abortNode (r : List Byte) : Moves P s₀ (s.abortNode r) := by
  unfold State.abortNode
  split
  · exact h.abortMatched r _
  · exact h.fail r _

theorem abortOnLine (r : List Byte) : Moves P s₀ (s.abortOnLine r) := by
  unfold State.abortOnLine
  split
  · exact h.abortMatched r _
  · exact h.fail r _

theorem addPollRead (a : ReadAnswer) : Moves P s₀ (s.addPollRead a) := by
  unfold State.addPollRead
  split
  · extract_lets s1
    have hs1 : Moves P s₀ s1 := h.frame rfl
    split
    · exact ((hs1.makePoll _ _).adminDone _ _ _ _).closing
    · exact (hs1.adminDone _ _ _ _).closing
  · exact h

theorem imageEnds : Moves P s₀ { s with adWrite := none } :=
  h.edit (.writes s s.quWrites none s.nuWrite (.inl fun hn => ⟨hn.1, rfl, hn.2.2⟩)) rfl rfl

theorem nodeImageWritten (a : WriteAnswer) : Moves P s₀ (s.nodeImageWritten a) := by
  unfold State.nodeImageWritten
  split
  · refine (Moves.adminDone ?_ _ _ _ _).closing
    unfold State.undoNode
    split
    · exact h.imageEnds.modNode _ fun _ => ⟨rfl, rfl, .inl rfl⟩
    · exact h.imageEnds
  · exact h

theorem pollImageWritten (a : WriteAnswer) : Moves P s₀ (s.pollImageWritten a) := by
  unfold State.pollImageWritten
  split
  · refine (Moves.adminDone ?_ _ _ _ _).closing
    unfold State.undoPoll
    split
    · exact h.imageEnds.modPoll _ _
    · exact h.imageEnds
  · exact h

theorem abortEnds : Moves P s₀ s.abortEnds := by
  unfold State.abortEnds
  split
  · exact h.closeAbort.readyResult
  · exact h

theorem readyEnds : Moves P s₀ s.readyEnds := by
  unfold State.readyEnds
  split
  · exact h.readyResult
  · exact h

/-! ### The register window (R125, R137, R150) -/

theorem accepted : Moves P s₀ s.accepted := h.frame rfl

theorem post (w : Word) : Moves P s₀ (s.post w) := by
  unfold State.post
  split
  case isFalse => exact h
  split
  case h_2 => exact h
  next q _ =>
  unfold State.postTail
  split
  · exact h
  · exact h
  all_goals
    split
    · exact h.modSq q ⟨rfl, id⟩
    · exact (h.stall q).pendSq q _

theorem release (w : Word) : Moves P s₀ (s.release w) := by
  unfold State.release
  split
  case isFalse => exact h
  split
  case h_2 => exact h
  next c _ =>
  unfold State.releaseHead
  extract_lets d
  split
  case h_2 => exact h
  split
  case isTrue hr =>
    obtain ⟨hh, hr⟩ := hr
    exact h.modCq c ⟨.rfl, rfl, Nat.sub_le _ _, fun hd => hd.released hh hr⟩
  case isFalse => exact h.pendCq c

theorem acknowledge (w : Word) : Moves P s₀ (s.acknowledge w) := by
  refine h.foldl (fun t c ht => ?_) _
  unfold State.ackCq
  split
  · exact ht.modCq c (by rw [Cq.acknowledged_eq]; split <;> exact ⟨.rfl, rfl, le_rfl, id⟩)
  · exact ht

/-! ### Expiries of the timebase (R57, R58, R83, R98, R109, R148) -/

theorem expire {i : SlotId} (hi : s.NotHeld i) : Moves P s₀ (s.expire i) := by
  unfold State.expire
  split
  · exact h.complete hi _ _ _ _
  · exact h.modTxn hi _

theorem deadlineEnds (i : SlotId) : Moves P s₀ (s.deadlineEnds i) := by
  unfold State.deadlineEnds
  split
  · next hd =>
    split
    · exact (h.expire (.of_deadline hd)).closing
    · exact h
  · exact h

theorem holdOffEnds (n : NodeId) : Moves P s₀ (s.holdOffEnds n) := by
  unfold State.holdOffEnds
  split
  · split
    · exact h.modNode n fun _ => ⟨rfl, rfl, .inl rfl⟩
    · exact h
  · exact h

theorem probeFallsDue (n : NodeId) : Moves P s₀ (s.probeFallsDue n) := by
  unfold State.probeFallsDue
  split
  · split
    · exact h.modNode n fun _ => ⟨rfl, rfl, .inl rfl⟩
    · exact h
  · exact h

theorem probePromotes (n : NodeId) : Moves P s₀ (s.probePromotes n) := by
  unfold State.probePromotes
  split
  · split
    · exact h.promoteNode _ n
    · exact h
  · exact h

theorem periodEnds (p : PollId) : Moves P s₀ (s.periodEnds p) := by
  unfold State.periodEnds
  split
  · split
    · exact h.modPoll p _
    · exact h
  · exact h

theorem aggregatorEnds (c : CqId) : Moves P s₀ (s.aggregatorEnds c) := by
  unfold State.aggregatorEnds
  split
  · split
    · exact h.modCq c ⟨.rfl, rfl, le_rfl, id⟩
    · exact h
  · exact h

theorem takeExpiries : Moves P s₀ s.takeExpiries := by
  unfold State.takeExpiries
  extract_lets s1 s2 s3 s4
  have hs1 : Moves P s₀ s1 := h.foldl (fun _ i ht => ht.deadlineEnds i) _
  have hs2 : Moves P s₀ s2 := hs1.foldl (fun _ n ht => ht.holdOffEnds n) _
  have hs3 : Moves P s₀ s3 := hs2.foldl (fun _ n ht => ht.probeFallsDue n) _
  have hs4 : Moves P s₀ s4 := hs3.foldl (fun _ p ht => ht.periodEnds p) _
  exact hs4.foldl (fun _ c ht => ht.aggregatorEnds c) _

end Moves
end Sys2Proof.Machine

namespace Sys2Proof.Machine

/-! ### What stopping leaves alone (R116, R178) -/

theorem State.withdraw_frame (s : State) (p : PollId) :
    s.withdraw p = { s with nodes := (s.withdraw p).nodes, polls := (s.withdraw p).polls } := by
  unfold State.withdraw
  split
  · rfl
  · dsimp only; split <;> rfl

theorem State.stopPoll_frame (s : State) (p : PollId) :
    s.stopPoll p = { s with nodes := (s.stopPoll p).nodes, polls := (s.stopPoll p).polls } := by
  unfold State.stopPoll
  split
  · rfl
  · split
    · unfold State.modPoll State.setPoll; dsimp only; rw [s.withdraw_frame p]
    · rfl

theorem State.foldl_stopPoll_frame (l : List PollId) (s : State) :
    l.foldl State.stopPoll s =
      { s with nodes := (l.foldl State.stopPoll s).nodes, polls := (l.foldl State.stopPoll s).polls } :=
  List.foldlRecOn (motive := fun t : State => t = { s with nodes := t.nodes, polls := t.polls }) l _ rfl
    fun t ht p _ => by rw [t.stopPoll_frame p, ht]

/-- Entry to STOPPED changes the node table, the poll table and the controller state alone (R178). -/
theorem State.enterStopped_frame (s : State) :
    s.enterStopped = { s with ctl := .stopped, nodes := s.enterStopped.nodes, polls := s.enterStopped.polls } := by
  unfold State.enterStopped
  rw [s.foldl_stopPoll_frame]

theorem State.line_lineOff (s : State) (l : LineId) : (s.lineOff l).line l = (s.line l).stopped := by
  have e : (s.lineOff l).line l = ((s.modLine l Line.stopped).suspendLine l).line l := rfl
  rw [e, State.line, State.lines_suspendLine]
  exact s.line_setLine_self l _

/-- A CQ exists and has room for an entry. -/
def State.HasRoom (s : State) (c : CqId) : Prop := (s.cq c).st ≠ .absent ∧ (s.cq c).unreleased < (s.cq c).size

/-- The CQ that the completion writer chooses has room (R136). -/
theorem State.chooseCq_hasRoom {s : State} {c : CqId} (h : s.chooseCq = some c) : s.HasRoom c := by
  have hw := (List.mem_filter.mp (pickMin_some h).1).2
  simp only [State.hasWork, Bool.and_eq_true, beq_iff_eq, decide_eq_true_eq] at hw
  obtain ⟨⟨hst, hr⟩, -⟩ := hw
  exact ⟨by simp [hst], hr⟩

namespace Moves
variable {P : Perm} {s₀ s : State} (h : Moves P s₀ s)
include h

theorem stopPoll (p : PollId) : Moves P s₀ (s.stopPoll p) := by
  unfold State.stopPoll
  split
  · exact h
  · split
    · exact (h.withdraw p).modPoll p _
    · exact h

/-! ### STOP LINE in its aborting form (R38, R88, R166) -/

theorem stopList (l : List SlotId) : Moves P s₀ (s.stopList l) := h.foldl (fun _ i ht => ht.flushPending .lineStopped i) l

theorem stopNode (l : LineId) (n : NodeId) : Moves P s₀ (s.stopNode l n) := by
  unfold State.stopNode
  split
  · split
    · exact h.stopList _
    · exact h
  · exact h

/-- The lists of a line are stopped and the line enters OFF. -/
theorem stopLists (l : LineId) (j : List SlotId) :
    Moves P s₀ (((allNodes.foldl (fun t n => t.stopNode l n) (s.stopList j)).closeBefore l).lineOff l) :=
  (Moves.foldl ((h.stopList j).foldl (fun _ n ht => ht.stopNode l n) _) (fun _ x ht => ht.closeObj x) _).lineOff l

/-- A line may be out of order for a while, when it ends in order. -/
theorem mended {l : LineId} {y : Line} {u : State} (hu : Moves P (s.setLine l y) u) (hl : (s.line l).Moves P (u.line l)) :
    Moves P s₀ u where
  grants := h.grants
  edits := (h.edits.tail (.lines s _)).trans hu.edits
  lines k := by
    refine (h.lines k).trans ?_
    by_cases e : l = k
    · exact e ▸ hl
    · have hk := hu.lines k
      rwa [s.line_setLine_ne e] at hk
  ctl := hu.ctl.trans h.ctl

/-- While the lists are stopped the line is one that was cut, in its state without its attempt; in OFF it is sane again. -/
theorem abortLine (l : LineId) : Moves P s₀ (s.abortLine l) := by
  unfold State.abortLine
  extract_lets s1 s2
  cases ha : (s.line l).attempt with
  | none =>
    have e1 : s1 = s := by unfold s1 State.cutAttempt; rw [ha]
    unfold s2
    rw [e1]
    exact h.stopLists l _
  | some a =>
    have hP : P.write := h.write_of_attempt (l := l) (by rw [ha]; simp)
    have e1 : s1 = (s.setLine l { s.line l with attempt := none }).cutShort a (s.line l).requestSent := by
      unfold s1 State.cutAttempt; rw [ha]; rfl
    have h1 : Moves P (s.setLine l { s.line l with attempt := none }) s1 := by
      rw [e1]
      exact (Moves.refl ⟨fun _ => hP, fun _ _ => hP, fun _ => hP⟩).cutShort a _
    refine h.mended (h1.stopLists l _) ?_
    rw [State.line_lineOff]
    exact ⟨fun _ => by simp [Line.Sane, Line.stopped, Line.toOff, Line.offWith], fun hn => absurd rfl hn⟩

theorem stopAborting (r : List Byte) : Moves P s₀ (s.stopAborting r) := by
  unfold State.stopAborting
  split
  · exact h.fail r _
  · split
    · exact h.fail r _
    · exact (h.abortLine _).done r _

/-! ### The completion writer (R119, R133, R136, R144) -/

theorem pushEntry (hP : P.write) (c : CqId) (bytes : List Byte) : Moves P s₀ (s.pushEntry c bytes) := h.pushWrite hP _

theorem writing (hw : s.working = true) {c : CqId} (hr : s.HasRoom c) (w : EntryWork) : Moves P s₀ (s.writing c w) := by
  have hc : s.ctl ≠ .off := fun e => by simp [State.working, e] at hw
  exact Moves.frame (h.edit (.begin s { cq := c, work := w } hc hr.1 hr.2) rfl rfl) rfl

theorem beginCompletion (hw : s.working = true) {c : CqId} (hr : s.HasRoom c) : Moves P s₀ (s.beginCompletion c) := by
  unfold State.beginCompletion
  split
  · split
    · exact (h.pushEntry (h.working hw) c _).writing hw hr _
    · exact h
  · exact h

theorem beginPoll (hw : s.working = true) {c : CqId} (hr : s.HasRoom c) (p : PollId) (e : Poll) :
    Moves P s₀ (s.beginPoll c p e) := by
  have hP := h.working hw
  unfold State.beginPoll
  extract_lets phase s1
  have hs1 : Moves P s₀ s1 := h.setPoll p _
  split
  · exact (hs1.pushEntry hP c _).writing hw hr _
  · split
    · exact (hs1.pushEntry hP c _).writing hw hr _
    · exact Moves.writing (hs1.edit (.writes s1 s1.quWrites s1.adWrite (some _) (.inr hP)) rfl rfl) hw hr _

theorem takeSource (hw : s.working = true) {c : CqId} (hr : s.HasRoom c) (x : Source) : Moves P s₀ (s.takeSource c x) := by
  have hP := h.working hw
  unfold State.takeSource
  split
  · next q =>
    exact ((h.modSq q (f := fun x => { x with noticeMark := false }) ⟨rfl, id⟩).pushEntry hP c _).writing hw hr _
  · next d =>
    refine ((h.modCq d (f := fun x => { x with noticeMark := false }) ⟨.rfl, rfl, le_rfl, id⟩).pushEntry hP c _).writing hw ?_ _
    change (s.setCq d _).HasRoom c
    unfold State.HasRoom
    rw [State.cq_setCq]
    split
    case isTrue e => exact e ▸ hr
    case isFalse => exact hr
  · next l =>
    exact ((h.modLine (l := l) (f := fun x => { x with transitions := 0 }) (.of_same rfl)).pushEntry hP c _).writing hw hr _
  · split
    · next n _ r hn =>
      exact ((h.setNode hn (q := { r with noticeMark := false, transitions := 0 }) ⟨rfl, rfl, .inl rfl⟩).pushEntry hP c
        _).writing hw hr _
    · exact h
  · split
    · exact h.beginPoll hw hr _ _
    · exact h

theorem beginNotice (hw : s.working = true) {c : CqId} (hr : s.HasRoom c) : Moves P s₀ (s.beginNotice c) := by
  unfold State.beginNotice
  split
  · next x rest hl =>
    have hn : s.noticeList.Nodup → rest.Nodup := by rw [hl]; exact fun hn => (List.nodup_cons.mp hn).2
    exact Moves.takeSource (s := { s with noticeList := rest }) (h.edit (.notices s rest hn) rfl rfl) hw hr x
  · exact h

theorem beginEntry : Moves P s₀ s.beginEntry := by
  unfold State.beginEntry
  split
  case isFalse => exact h
  next hw =>
  obtain ⟨hw, -⟩ := Bool.and_eq_true_iff.mp hw
  split
  · next c hc =>
    split
    · exact h.beginCompletion hw (State.chooseCq_hasRoom hc)
    · exact h.beginNotice hw (State.chooseCq_hasRoom hc)
    · exact h
  · exact h

theorem faultPoll (p : PollId) : Moves P s₀ (s.faultPoll p) := by
  unfold State.faultPoll
  split
  · split
    · exact h
    · exact (h.withdraw p).modPoll p _
  · exact h

theorem pollDataWritten (hP : ¬s.NoWrites → P.write) (a : WriteAnswer) : Moves P s₀ (s.pollDataWritten a) := by
  unfold State.pollDataWritten
  split
  case h_2 => exact h
  next hn hw =>
  have hP : P.write := hP fun ⟨_, _, e⟩ => nomatch e.symm.trans hn
  extract_lets s1 phase
  have h0 : Moves P s₀ { s with nuWrite := none } := h.edit (.writes s s.quWrites s.adWrite none (.inr hP)) rfl rfl
  have hs1 : Moves P s₀ s1 := h0.edit (.writer _ _ hw rfl) rfl rfl
  split
  · exact hs1.pushEntry hP _ _
  · split
    · exact hs1.pushEntry hP _ _
    · exact (hs1.faultPoll _).pushEntry hP _ _

theorem popWrite : Moves P s₀ s.popWrite :=
  h.edit (.writes s s.quWrites.tail s.adWrite s.nuWrite (.inl fun ⟨hq, hr⟩ => ⟨by rw [hq]; rfl, hr⟩)) rfl rfl

theorem freeEntry (hP : P.free) (ref : HeldRef) : Moves P s₀ (s.freeEntry ref) := by
  cases ref with
  | slot i => exact h.setSlot_none (.inr hP)
  | admin => exact h.frame rfl

/-- An entry that awaits its end is the writer's. -/
theorem entryEnd {c : CqId} {w : EntryWork} (hw : s.entryEnds = some (c, w)) (k : EntryKind) :
    Moves P s₀ ({ s.popWrite with writer := none }.modCq c (·.written k)) := by
  have hw' : s.writer = some { cq := c, work := w } := by
    unfold State.entryEnds at hw
    split at hw
    · next hs =>
      split at hw
      · cases hw
      · cases hw; exact hs
    · cases hw
  exact h.popWrite.edit (.written s.popWrite k hw') rfl rfl

theorem entryWritten (hP : P.free) : Moves P s₀ s.entryWritten := by
  unfold State.entryWritten
  split
  · next hw => exact ((h.entryEnd hw _).freeEntry hP _).closing
  · next hw => exact (h.entryEnd hw _).closing
  · exact h

theorem replyWritten (a : WriteAnswer) : Moves P s₀ (s.replyWritten a) := by
  unfold State.replyWritten
  split
  · split
    · next hs =>
      have hi : s.NotHeld _ := fun x hx => by cases hs.symm.trans hx; exact SlotSt.noConfusion
      exact (h.popWrite.enterHeld hi _).closing
    · exact h.popWrite
  · exact h

/-! ### Time passes (R2, R18, R148) -/

theorem begins : Moves P s₀ s.begins where
  grants := h.grants
  edits := h.edits.tail (.lines s _)
  lines l := by rw [State.line_begins]; exact (h.lines l).trans .begins
  ctl := h.ctl

theorem pass (n : Nat) : Moves P s₀ (s.pass n) where
  grants := h.grants
  edits := by
    refine ((h.edits.tail (.lines s (s.pass n).lines)).tail (.cqs _ (s.pass n).cqs fun c => ?_)).tail (.frame rfl)
    have hp (d : Cq) (k : Nat) : d.Keeps (d.pass k) := by
      unfold Cq.pass; split <;> exact ⟨.rfl, rfl, le_rfl, id⟩
    unfold State.pass
    dsimp only
    split
    · exact .refl _
    · exact match c with | 0 | 1 | 2 | 3 => hp _ _
  lines l := by rw [State.line_pass]; exact (h.lines l).trans (.pass n)
  ctl := h.ctl

end Moves
end Sys2Proof.Machine

namespace Sys2Proof.Machine

/-! ### The commands that move the controller, and the effect of any command -/

/-- The commands that may move the controller or reset the part (R175, R182). -/
def movesCtl : Instr → Prop
  | .powerOn | .resetRequest | .enableRequest | .drainRequest | .registerWrite _ | .entryWriteError | .controllerStopped => True
  | _ => False

/-- The effect of a command: a chain of changes under one controller state; a chain that also moves the controller and keeps the quiet;
or a reset. -/
inductive Effect (P : Perm) (s t : State) : Prop
  | moves (h : Moves P s t)
  | turns (h : Edits P s t) (hq : s.Quiet → t.Quiet)
  | fresh (hP : P.free) (h : t.core = s.cleared.core)

theorem State.quiet_of_ctl {s : State} (hl : ∀ l, (s.line l).Sane) (hc : s.ctl = .running ∨ s.ctl = .draining) : s.Quiet :=
  ⟨hl, fun h => by rcases hc with e | e <;> simp [e] at h⟩

/-- What the conditions of STOPPED ask of the slots, the lines and the bus (R178). -/
theorem State.stopDue_iff (s : State) :
    s.stopDue = true ↔ (∀ i, s.slot i = none) ∧ (∀ l, (s.line l).st = .idle ∨ (s.line l).st = .off) ∧ s.adminWork = none ∧
      s.adRead = none ∧ s.writer = none ∧ s.NoWrites := by
  have rest (l : LineSt) : l.atRest = true ↔ l = .idle ∨ l = .off := by cases l <;> simp [LineSt.atRest]
  simp [State.stopDue, State.noWrites, State.NoWrites, allSlots, allLines, rest, and_assoc]

theorem Line.Sane.attempt_of_rest {x : Line} (h : x.Sane) (hr : x.st = .idle ∨ x.st = .off) : x.attempt = none :=
  h.2.1 (by tauto)

/-- With the conditions of STOPPED met, STOPPED is quiet. -/
theorem State.quiet_enterStopped {s : State} (hd : s.stopDue = true) (hq : s.Quiet) : s.enterStopped.Quiet := by
  obtain ⟨-, hl, -, -, -, hw⟩ := s.stopDue_iff.mp hd
  rw [s.enterStopped_frame]
  exact ⟨hq.1, fun _ => ⟨hw, fun l => (hq.1 l).attempt_of_rest (hl l)⟩⟩

namespace Effect
variable {P : Perm} {s t : State}

/-- A field of which no invariant speaks may follow. -/
theorem frame {u : State} (h : Effect P s t) (e : u.core = t.core) : Effect P s u := by
  cases h with
  | moves h => exact .moves (h.frame e)
  | turns h hq =>
    refine .turns (h.tail (.frame e)) fun hs => ?_
    have ht : t.core.Quiet := hq hs
    rw [← e] at ht
    exact ht
  | fresh hP h => exact .fresh hP (e.trans h)

end Effect

theorem State.enable_effect {P : Perm} {s : State} (g : P.Grants s) : Effect P s s.enable := by
  have restart : Effect P s { s with ctl := .running } :=
    .turns (.single (.ctl s _ (by simp))) fun hq => State.quiet_of_ctl hq.1 (.inl rfl)
  unfold State.enable
  split
  case h_1 hc =>
    split
    · next hv =>
      have hs : 2 ≤ s.adminCqSize.toNat := by
        simp only [State.geometryValid, sizeOk, Bool.and_eq_true, decide_eq_true_eq] at hv
        obtain ⟨⟨⟨-, hs, -⟩, -⟩, -⟩ := hv
        exact hs
      extract_lets s1 s2
      refine .turns ?_ fun hq => State.quiet_of_ctl hq.1 (.inl rfl)
      have e1 : Edits P s s1 := .single (.sqZero s _)
      have e2 : Edits P s s2 := e1.tail (.cqMade s1 0 _ (.inr hc) (Cq.ring_made _ hs _ _ _))
      exact (e2.tail (.ctl s2 .running (by simp))).tail (.frame rfl)
    · exact .moves ((Moves.refl g).frame rfl)
  case h_2 | h_3 => exact restart
  case h_4 | h_5 => exact .moves (.refl g)

theorem State.enterStopped_effect {P : Perm} {s : State} (g : P.Grants s) (hd : s.stopDue = true) :
    Effect P s s.enterStopped :=
  .turns (((Moves.refl g).foldl (fun _ p ht => ht.stopPoll p) _).edits.tail (.ctl _ _ (by simp))) (State.quiet_enterStopped hd)

theorem State.stops_effect {P : Perm} {s : State} (g : P.Grants s) : Effect P s s.stops := by
  unfold State.stops
  split
  · next h => exact State.enterStopped_effect g h.2
  · exact .moves (.refl g)

theorem State.drain_effect {P : Perm} {s : State} (g : P.Grants s) : Effect P s s.drain := by
  unfold State.drain
  split
  · split
    · next h => exact State.enterStopped_effect g h
    · exact .turns (.single (.ctl s _ (by simp))) fun hq => State.quiet_of_ctl hq.1 (.inr rfl)
  · exact .moves (.refl g)

/-- In FATAL every line is in OFF and nothing is written (R180). -/
theorem State.enterFatal_effect {P : Perm} (s : State) (c : FatalCause) : Effect P s (s.enterFatal c) := by
  have off (l : LineId) : ∃ x : Line, (s.enterFatal c).line l = x.toOff := match l with
    | 0 | 1 | 2 | 3 => ⟨_, rfl⟩
  have ew : Edit P s { s with quWrites := [], adWrite := none, nuWrite := none } := .writes s _ _ _ (.inl fun _ => ⟨rfl, rfl, rfl⟩)
  refine .turns ((((Relation.ReflTransGen.single ew).tail (.ctl _ .fatal (by simp))).tail (.lines _ (s.enterFatal c).lines)).tail
    (.frame rfl)) fun _ => ⟨fun l => ?_, fun _ => ⟨⟨rfl, rfl, rfl⟩, fun l => ?_⟩⟩ <;>
  · obtain ⟨x, e⟩ := off l
    simp [e, Line.Sane, Line.toOff, Line.offWith]

theorem State.entryFailed_effect {P : Perm} {s : State} (g : P.Grants s) : Effect P s s.entryFailed := by
  unfold State.entryFailed
  split
  · exact s.enterFatal_effect _
  · exact s.enterFatal_effect _
  · exact .moves (.refl g)

theorem State.control_effect {P : Perm} {s : State} (g : P.Grants s) (hP : P.free) (w : Word) : Effect P s (s.control w) := by
  unfold State.control
  split
  · exact .fresh hP rfl
  · split
    · exact State.enable_effect g
    · split
      · exact State.drain_effect g
      · exact .moves (.refl g)

theorem State.writeReg_effect {P : Perm} {s : State} (g : P.Grants s) (hP : P.free) (o : Nat) (w : Word) :
    Effect P s (s.writeReg o w) := by
  have h := Moves.refl g
  have inOff {t : State} (e : t.core = s.core) : Effect P s (if s.ctl = .off then t else s) := by
    split
    · exact .moves (h.frame e)
    · exact .moves h
  unfold State.writeReg
  split
  · exact State.control_effect g hP w
  · exact inOff rfl
  · exact inOff rfl
  · exact inOff rfl
  · exact .moves (h.post w)
  · exact .moves (h.release w)
  · exact .moves (h.acknowledge w)
  · exact .moves h

theorem State.access_effect {P : Perm} {s : State} (g : P.Grants s) (hP : P.free) (a : Access) : Effect P s (s.access a) := by
  have h := Moves.refl g
  unfold State.access
  split
  · exact .moves h
  · split
    · exact .moves (h.frame rfl)
    · split
      · exact (State.writeReg_effect g hP _ _).frame rfl
      · exact .moves (h.frame rfl)

/-- A command that moves neither the controller nor resets the part is a chain of changes. -/
theorem exec_moves {P : Perm} {s : State} (g : P.Grants s) {i : Instr} (hi : ¬movesCtl i) (hf : mayEndHeld i → P.free)
    (hs : mayMoveSeq i → P.seq) : ∃ t, exec i s = .next t ∧ Moves P s t := by
  have h := Moves.refl g
  cases i
  case powerOn | resetRequest | enableRequest | drainRequest | registerWrite | entryWriteError | controllerStopped =>
    exact absurd trivial hi
  case post w => exact ⟨_, rfl, (h.post w).accepted⟩
  case release w => exact ⟨_, rfl, (h.release w).accepted⟩
  case causeAcknowledge w => exact ⟨_, rfl, (h.acknowledge w).accepted⟩
  case fetchStart => exact ⟨_, rfl, h.fetchNext⟩
  case fetchRecordReadDone r => exact ⟨_, rfl, h.recordRead r⟩
  case fetchDataReadDone b => exact ⟨_, rfl, h.dataRead b⟩
  case fetchReadError => exact ⟨_, rfl, h.fetchFailed⟩
  case adminFetchStart => exact ⟨_, rfl, h.adminFetch⟩
  case adminReadError => exact ⟨_, rfl, h.adminFetchFailed⟩
  case adminInvalidOpcode r => exact ⟨_, rfl, h.take fun _ _ ht => ht.fail r _⟩
  case createCq r => exact ⟨_, rfl, h.take fun _ _ ht => ht.createCq r⟩
  case deleteCq r => exact ⟨_, rfl, h.take fun _ _ ht => ht.deleteCq r⟩
  case tuneCq r => exact ⟨_, rfl, h.take fun _ _ ht => ht.tuneCq r⟩
  case createSq r => exact ⟨_, rfl, h.take fun _ _ ht => ht.createSq r⟩
  case deleteSq r => exact ⟨_, rfl, h.take fun _ _ ht => ht.deleteSq r⟩
  case configureLine r => exact ⟨_, rfl, h.take fun _ _ ht => ht.configureLine r⟩
  case startLine r => exact ⟨_, rfl, h.take fun _ _ ht => ht.startLine r⟩
  case stopLineDraining r => exact ⟨_, rfl, h.take fun _ _ ht => ht.stopDraining r⟩
  case stopLineAborting r => exact ⟨_, rfl, h.take fun _ _ ht => ht.stopAborting r⟩
  case setNode r => exact ⟨_, rfl, h.take fun _ _ ht => ht.setNodeCmd (hs trivial) r⟩
  case removeNode r => exact ⟨_, rfl, h.take fun _ _ ht => ht.removeNodeCmd r⟩
  case readNode r => exact ⟨_, rfl, h.take fun _ hP ht => ht.readNodeCmd hP r⟩
  case addPoll r => exact ⟨_, rfl, h.take fun _ _ ht => ht.addPollCmd r⟩
  case removePoll r => exact ⟨_, rfl, h.take fun _ _ ht => ht.removePollCmd r⟩
  case readPoll r => exact ⟨_, rfl, h.take fun _ hP ht => ht.readPollCmd hP r⟩
  case abortBySqAndTag r => exact ⟨_, rfl, h.take fun _ _ ht => ht.abortTag r⟩
  case abortByNode r => exact ⟨_, rfl, h.take fun _ _ ht => ht.abortNode r⟩
  case abortByLine r => exact ⟨_, rfl, h.take fun _ _ ht => ht.abortOnLine r⟩
  case setNoticeQueue r => exact ⟨_, rfl, h.take fun _ _ ht => ht.setNoticeQueue r⟩
  case addPollDataReadDone a => exact ⟨_, rfl, h.addPollRead a⟩
  case readNodeImageWriteDone a => exact ⟨_, rfl, h.nodeImageWritten a⟩
  case readPollImageWriteDone a => exact ⟨_, rfl, h.pollImageWritten a⟩
  case abortComplete => exact ⟨_, rfl, h.abortEnds⟩
  case readyCommandResult => exact ⟨_, rfl, h.readyEnds⟩
  case writerBeginEntry => exact ⟨_, rfl, h.beginEntry⟩
  case pollDataWriteDone a => exact ⟨_, rfl, h.pollDataWritten g.writes a⟩
  case entryWriteDone => exact ⟨_, rfl, h.entryWritten (hf trivial)⟩
  case replyDataWriteDone a => exact ⟨_, rfl, h.replyWritten a⟩
  case schedulerChoice l => exact ⟨_, rfl, h.schedule l⟩
  case startBitInIdle l => exact ⟨_, rfl, (h.startBitOn l).closing⟩
  case characterReceived l b e => exact ⟨_, rfl, (h.receive (hs trivial) l b e).closing⟩
  case characterSent l e => exact ⟨_, rfl, (h.charSent (hs trivial) l e).closing⟩
  case missingStopBit l => exact ⟨_, rfl, (h.missingStop l).closing⟩
  case guardTimeReached l => exact ⟨_, rfl, (h.guardTime l).closing⟩
  case guardWaitBoundReached l => exact ⟨_, rfl, (h.guardWait l).closing⟩
  case gapLimitPassed l => exact ⟨_, rfl, (h.gapPassed l).closing⟩
  case responseTimeout l => exact ⟨_, rfl, (h.respTimeout l).closing⟩
  case breakDetected l => exact ⟨_, rfl, (h.breakSeen l).closing⟩
  case faultRecovery l => exact ⟨_, rfl, (h.faultEnds l).closing⟩
  case broadcastQuietExpired l => exact ⟨_, rfl, (h.quietExpired l).closing⟩
  case deadlineExpired i => exact ⟨_, rfl, h.deadlineEnds i⟩
  case holdOffEnd n => exact ⟨_, rfl, h.holdOffEnds n⟩
  case probeDue n => exact ⟨_, rfl, h.probeFallsDue n⟩
  case probePromoted n => exact ⟨_, rfl, h.probePromotes n⟩
  case periodExpiry p => exact ⟨_, rfl, h.periodEnds p⟩
  case aggregatorTimerExpired c => exact ⟨_, rfl, h.aggregatorEnds c⟩
  case lineEntersOff l => exact ⟨_, rfl, h.settle _⟩
  case nodeRecordVacant n => exact ⟨_, rfl, h.settle _⟩
  case pollEntryEmpty p => exact ⟨_, rfl, h.settle _⟩
  case sqBecomesAbsent q => exact ⟨_, rfl, h.settle _⟩
  case cqBecomesAbsent c => exact ⟨_, rfl, h.settle _⟩

/-- What every command can do, said once. -/
theorem exec_effect {P : Perm} {s : State} (g : P.Grants s) {i : Instr} (hf : mayEndHeld i → P.free)
    (hs : mayMoveSeq i → P.seq) : ∃ t, exec i s = .next t ∧ Effect P s t := by
  by_cases hi : movesCtl i
  · cases i <;> try exact absurd hi id
    case powerOn => exact ⟨_, rfl, .fresh (hf trivial) rfl⟩
    case resetRequest => exact ⟨_, rfl, .fresh (hf trivial) rfl⟩
    case enableRequest => exact ⟨_, rfl, (State.enable_effect g).frame rfl⟩
    case drainRequest => exact ⟨_, rfl, (State.drain_effect g).frame rfl⟩
    case registerWrite a => exact ⟨_, rfl, State.access_effect g (hf trivial) a⟩
    case entryWriteError => exact ⟨_, rfl, State.entryFailed_effect g⟩
    case controllerStopped => exact ⟨_, rfl, State.stops_effect g⟩
  · obtain ⟨t, ht, h⟩ := exec_moves g hi hf hs
    exact ⟨t, ht, .moves h⟩

/-- A tick: the controller may stop, and a chain of changes follows. -/
theorem State.tick_moves {P : Perm} {s : State} (g : P.Grants s.stops) : Moves P s.stops s.tick :=
  ((Moves.refl g).begins.pass 1).takeExpiries

end Sys2Proof.Machine

namespace Sys2Proof.Machine

/-! ### What every step keeps -/

/-- The invariants speak of the core alone; a tick and a command keep what a single edit keeps. -/
theorem step_keeps {I : State → Prop} (hp : ∀ s is, I s → I { s with pending := is })
    (he : ∀ P s t, Edit P s t → I s → I t) (hc : ∀ s t : State, t.core = s.cleared.core → I t) {s t : State} (h : I s)
    (hst : step s = .next t) : I t := by
  have edits {P : Perm} {a b : State} (hab : Edits P a b) (ha : I a) : I b := by
    induction hab with
    | refl => exact ha
    | tail _ e ih => exact he _ _ _ e ih
  have effect {P : Perm} {a b : State} (hab : Effect P a b) (ha : I a) : I b := by
    cases hab with
    | moves g => exact edits g.edits ha
    | turns g _ => exact edits g ha
    | fresh _ g => exact hc _ _ g
  let P : Perm := ⟨True, True, True⟩
  have grants (u : State) : P.Grants u := ⟨fun _ => trivial, fun _ _ => trivial, fun _ => trivial⟩
  cases hs : s.pending with
  | nil =>
    have et : t = s.tick := by simpa [step, hs] using hst.symm
    rw [et]
    exact edits (State.tick_moves (grants _)).edits (effect (State.stops_effect (grants _)) h)
  | cons i is =>
    obtain ⟨u, hu, hm⟩ := exec_effect (grants { s with pending := is }) (i := i) (fun _ => trivial) fun _ => trivial
    simp only [step, hs, hu] at hst
    cases hst
    exact effect hm (hp s is h)

/-- A field that the core has is that of a state with the same core. -/
theorem State.of_core {α : Type} (f : State → α) (hf : ∀ u, f u.core = f u) {s t : State} (e : t.core = s.core) : f t = f s :=
  (hf t).symm.trans ((congrArg f e).trans (hf s))

/-! ### The notice list (R141) -/

theorem Edit.noticesOnce {P : Perm} {s t : State} (e : Edit P s t) (h : s.NoticesOnce) : t.NoticesOnce := by
  cases e with
  | frame e => rwa [State.NoticesOnce, State.of_core State.noticeList (fun _ => rfl) e]
  | notices l hl => exact hl h
  | _ => exact h

/-- Settles O53: the notice list is changed by a join, a removal or the taking of its head alone. -/
theorem noticesOnceKept : Obligations.NoticesOnceKept := fun _ _ =>
  step_keeps (fun _ _ h => h) (fun _ _ _ => Edit.noticesOnce) fun s t e => by
    rw [State.NoticesOnce, State.of_core State.noticeList (fun _ => rfl) e]
    exact List.nodup_nil

/-! ### The keys (R42) -/

/-- A record is put at an index with a key that no other record has. -/
theorem State.keysUnique_setNode {s : State} (h : s.KeysUnique) {n : NodeId} {r : Node}
    (hr : ∀ m q, s.node m = some q → r.line = q.line → r.address = q.address → n = m) :
    (s.setNode n (some r)).KeysUnique := by
  intro a b x y ha hb hl had
  rw [State.node_setNode] at ha hb
  split at ha <;> split at hb
  · next ea eb => exact ea.symm.trans eb
  · next ea _ => cases ha; exact ea ▸ hr b y hb hl had
  · next _ eb => cases hb; exact (eb ▸ hr a x ha hl.symm had.symm).symm
  · exact h a b x y ha hb hl had

theorem Edit.keysUnique {P : Perm} {s t : State} (e : Edit P s t) (h : s.KeysUnique) : t.KeysUnique := by
  cases e with
  | frame e =>
    have hs : s.core.KeysUnique := h
    exact (e ▸ hs : t.core.KeysUnique)
  | node n hr k =>
    exact State.keysUnique_setNode h fun m q hm hl ha => h n m _ q hr hm (k.line ▸ hl) (k.address ▸ ha)
  | vacate n =>
    intro a b x y ha hb
    rw [State.node_setNode] at ha hb
    split at ha
    · cases ha
    · split at hb
      · cases hb
      · exact h a b x y ha hb
  | create n r hf =>
    exact State.keysUnique_setNode h fun m q hm hl ha => absurd ⟨hl.symm, ha.symm⟩ (State.findNode_none hf m q hm)
  | _ => exact h

/-- Settles O54: a record keeps its key, and SET NODE makes a record only where no record has the key. -/
theorem keysUniqueKept : Obligations.KeysUniqueKept := fun _ _ =>
  step_keeps (fun _ _ h => h) (fun _ _ _ => Edit.keysUnique) fun s t e => by
    have ht : t.nodes = Vector.replicate 128 none := State.of_core State.nodes (fun _ => rfl) e
    intro n m r q hn
    simp [State.node, ht] at hn

/-! ### The quotas (R66) -/

theorem State.occupied_le {t : State} {q : SqId} {l : List SlotId} (h : ∀ j ∈ t.slotsOf q, j ∈ l) :
    t.occupied q ≤ l.length :=
  (((List.nodup_finRange 32).filter _).subperm h).length_le

/-- A slot given up, or given to the queue that had it, takes no room of any queue. -/
theorem State.occupied_setSlot_le {s : State} {i : SlotId} {y : Option Slot}
    (h : ∀ z, y = some z → ∃ x, s.slot i = some x ∧ z.sq = x.sq) (q : SqId) :
    (s.setSlot i y).occupied q ≤ s.occupied q :=
  State.occupied_le fun j hj => by
    obtain ⟨x, hx, hq⟩ := State.mem_slotsOf.mp hj
    rw [State.slot_setSlot] at hx
    split at hx
    · next e =>
      obtain ⟨z, hz, hsq⟩ := h x hx
      exact State.mem_slotsOf.mpr ⟨z, e ▸ hz, hsq ▸ hq⟩
    · exact State.mem_slotsOf.mpr ⟨x, hx, hq⟩

/-- A FREE slot that is reserved takes one place of its queue. -/
theorem State.occupied_reserve (s : State) (i : SlotId) (x : Slot) (q : SqId) :
    (s.setSlot i (some x)).occupied q ≤ s.occupied q + if x.sq = q then 1 else 0 := by
  have hl := State.occupied_le (t := s.setSlot i (some x)) (q := q) (l := (if x.sq = q then [i] else []) ++ s.slotsOf q)
    fun j hj => by
      obtain ⟨y, hy, hq⟩ := State.mem_slotsOf.mp hj
      rw [State.slot_setSlot] at hy
      split at hy
      · next e => cases hy; simp [hq, e]
      · exact List.mem_append_right _ (State.mem_slotsOf.mpr ⟨y, hy, hq⟩)
  rw [List.length_append] at hl
  split at hl
  · next e => rw [if_pos e]; simpa [State.occupied, Nat.add_comm] using hl
  · next e => rw [if_neg e]; simpa [State.occupied] using hl

/-- The quota of one queue. -/
def State.QuotaOn (s : State) (q : SqId) : Prop :=
  s.occupied q ≤ (s.sq q).quota ∧ ((s.sq q).st = .absent → (s.sq q).quota = 0)

theorem State.QuotaOn.setSq {s : State} {q k : SqId} {d : Sq} (h : s.QuotaOn q)
    (hd : k = q → s.occupied q ≤ d.quota ∧ (d.st = .absent → d.quota = 0)) : (s.setSq k d).QuotaOn q := by
  unfold State.QuotaOn
  rw [State.sq_setSq]
  split
  · next e => exact hd e
  · exact h

theorem Edit.quotaKept {P : Perm} {s t : State} (e : Edit P s t) (h : s.QuotaKept) : t.QuotaKept := by
  intro q hq
  have hsq : s.QuotaOn q := h q hq
  have ⟨hle, hz⟩ := hsq
  cases e with
  | frame e =>
    have hs : s.core.QuotaKept := h
    exact (e ▸ hs : t.core.QuotaKept) q hq
  | slot i hx _ hy => exact ⟨(State.occupied_setSlot_le (fun z hz => ⟨_, hx, Option.some.inj hz ▸ hy⟩) q).trans hle, hz⟩
  | free i =>
    have hn : ∀ z, (none : Option Slot) = some z → ∃ x, s.slot i = some x ∧ z.sq = x.sq := fun z hz => by cases hz
    exact ⟨(State.occupied_setSlot_le hn q).trans hle, hz⟩
  | reserve i x hi hr =>
    refine ⟨(State.occupied_reserve s i x q).trans ?_, hz⟩
    split
    · next e => exact e ▸ hr
    · exact hle
  | sq k hd =>
    refine State.QuotaOn.setSq hsq fun e => ?_
    subst e
    rw [hd.quota]
    exact ⟨hle, fun ha => hz (hd.st ha)⟩
  | sqZero d => exact State.QuotaOn.setSq hsq fun e => absurd e.symm hq
  | sqMade k d ha hd =>
    refine State.QuotaOn.setSq hsq fun e => ?_
    subst e
    have h0 := hz ha
    exact ⟨by omega, fun e => absurd e hd⟩
  | sqGone k h0 => exact State.QuotaOn.setSq hsq fun e => ⟨by rw [← e, h0]; exact Nat.zero_le _, fun _ => rfl⟩
  | _ => exact h q hq

/-- Settles O56: a fetch reserves a slot only below the quota, and a queue is deleted only without slots. -/
theorem quotaStaysKept : Obligations.QuotaStaysKept := fun _ _ =>
  step_keeps (fun _ _ h => h) (fun _ _ _ => Edit.quotaKept) fun s t e q _ => by
    have hs : t.slots = Vector.replicate 32 none := State.of_core State.slots (fun _ => rfl) e
    have hq : t.sqs = Vector.replicate 8 Sq.absent := State.of_core State.sqs (fun _ => rfl) e
    have h0 : t.occupied q = 0 := by
      simp [State.occupied, State.slotsOf, State.slot, hs]
    rw [h0]
    exact ⟨Nat.zero_le _, fun _ => by simp [State.sq, hq, Sq.absent]⟩

/-! ### The completion rings (R131, R134) -/

theorem Cq.Ring.written {d : Cq} (h : d.Ring) (hr : d.unreleased < d.size) (k : EntryKind) : (d.written k).Ring := by
  obtain ⟨h2, hh, ht, hu⟩ := h
  refine ⟨h2, hh, ?_, hr⟩
  change (d.tail + 1) % d.size = (d.head + (d.unreleased + 1)) % d.size
  rw [ht, Nat.mod_add_mod, Nat.add_assoc]

/-- A queue is changed so that it is ABSENT or a ring, and has no less room where it is written. -/
theorem State.ringsKept_setCq {s : State} (h : s.RingsKept) {c : CqId} {d : Cq} (hd : d.st ≠ .absent → d.Ring)
    (hw : ∀ e, s.writer = some e → e.cq = c → d.st ≠ .absent ∧ d.unreleased < d.size) : (s.setCq c d).RingsKept := by
  obtain ⟨hr, hroom, hoff⟩ := h
  refine ⟨fun k => ?_, fun e he => ?_, hoff⟩ <;> rw [State.cq_setCq] <;> split
  · exact hd
  · exact hr k
  · next ec => exact hw e he ec.symm
  · exact hroom e he

theorem Edit.ringsKept {P : Perm} {s t : State} (e : Edit P s t) (h : s.RingsKept) : t.RingsKept := by
  have ⟨hr, hroom, hoff⟩ := h
  cases e with
  | frame e =>
    have hs : s.core.RingsKept := h
    exact (e ▸ hs : t.core.RingsKept)
  | ctl c hc => exact ⟨hr, hroom, fun e => absurd e hc⟩
  | cqs v hv =>
    refine ⟨fun c hc => (hv c).ring (hr c fun e => hc ((hv c).st.mpr e)), fun e he => ?_, hoff⟩
    obtain ⟨hst, hlt⟩ := hroom e he
    refine ⟨fun ea => hst ((hv e.cq).st.mp ea), ?_⟩
    exact (hv e.cq).size ▸ (hv e.cq).room.trans_lt hlt
  | cqMade c d hn hd =>
    refine State.ringsKept_setCq h (fun _ => hd) fun e he ec => ?_
    rcases hn with ha | ho
    · exact absurd (ec ▸ ha) (hroom e he).1
    · exact nomatch (hoff ho).symm.trans he
  | cqGone c hn =>
    refine State.ringsKept_setCq h (fun ha => absurd rfl ha) fun e he ec => ?_
    simp [State.writingOn, he, ec] at hn
  | @written c w k he =>
    obtain ⟨hst, hlt⟩ := hroom _ he
    have h' : State.RingsKept { s with writer := none } := ⟨hr, fun _ e => (nomatch e), fun _ => rfl⟩
    exact State.ringsKept_setCq h' (fun _ => (hr c hst).written hlt k) fun _ e => nomatch e
  | writer e' he hc =>
    refine ⟨hr, fun e h' => ?_, fun ho => nomatch (hoff ho).symm.trans he⟩
    cases h'
    exact hc ▸ hroom _ he
  | begin e hc hst hlt =>
    refine ⟨hr, fun e' h' => ?_, fun ho => absurd ho hc⟩
    cases h'
    exact ⟨hst, hlt⟩
  | _ => exact h

/-- Settles O57: an entry is begun only where its CQ has room, and its end takes one place; a RELEASE gives back no more than
is unreleased. -/
theorem ringsStayKept : Obligations.RingsStayKept := fun _ _ =>
  step_keeps (fun _ _ h => h) (fun _ _ _ => Edit.ringsKept) fun s t e => by
    have hq : t.cqs = Vector.replicate 4 Cq.absent := State.of_core State.cqs (fun _ => rfl) e
    have hw : t.writer = none := State.of_core State.writer (fun _ => rfl) e
    refine ⟨fun c hc => absurd ?_ hc, fun e he => (nomatch hw.symm.trans he), fun _ => hw⟩
    simp [State.cq, hq, Cq.absent]

/-! ### The quiet (R15, R16, R181) -/

/-- Nothing is at work: no controller, no write, no attempt. -/
def State.Still (s : State) : Prop := s.working = false ∧ s.NoWrites ∧ ∀ l, (s.line l).attempt = none

theorem Perm.grants_of_still {P : Perm} {s : State} (h : ¬s.Still → P.write) : P.Grants s where
  working hw := h fun hs => by simp [hs.1] at hw
  attempt l ha := h fun ⟨_, _, hn⟩ => ha (hn l)
  writes hn := h fun ⟨_, hw, _⟩ => hn hw

theorem Edit.noWrites {P : Perm} {s t : State} (hP : ¬P.write) (e : Edit P s t) (h : s.NoWrites) : t.NoWrites := by
  cases e with
  | frame e =>
    have hs : s.core.NoWrites := h
    exact (e ▸ hs : t.core.NoWrites)
  | writes q a n hn => exact (hn.resolve_right hP) h
  | _ => exact h

theorem Moves.noWrites {P : Perm} {s t : State} (hP : ¬P.write) (m : Moves P s t) (h : s.NoWrites) : t.NoWrites := by
  have hm := m.edits
  clear m
  induction hm with
  | refl => exact h
  | tail _ e ih => exact e.noWrites hP ih

/-- Where the controller is quiet nothing is handed over and no write is requested. -/
theorem Moves.quiet {P : Perm} {s t : State} (hP : s.Still → ¬P.write) (m : Moves P s t) (h : s.Quiet) : t.Quiet := by
  obtain ⟨hl, hq⟩ := h
  refine ⟨fun l => (m.lines l).sane (hl l), fun hc => ?_⟩
  rw [m.ctl] at hc
  obtain ⟨hw, ha⟩ := hq hc
  have hn : ¬P.write := hP ⟨by rcases hc with e | e | e <;> simp [State.working, e], hw, ha⟩
  exact ⟨m.noWrites hn hw, fun l => by_contra fun hb => ((m.lines l).attempt hb).elim (fun h => h (ha l)) hn⟩

theorem State.quiet_of_cleared {s t : State} (e : t.core = s.cleared.core) : t.Quiet := by
  have off (l : LineId) : ∃ x : Line, s.cleared.line l = x.cleared := match l with
    | 0 | 1 | 2 | 3 => ⟨_, rfl⟩
  have hc : s.cleared.Quiet := by
    refine ⟨fun l => ?_, fun _ => ⟨⟨rfl, rfl, rfl⟩, fun l => ?_⟩⟩ <;>
    · obtain ⟨x, e⟩ := off l
      simp [e, Line.Sane, Line.cleared, Line.offWith]
  have hc' : s.cleared.core.Quiet := hc
  rw [← e] at hc'
  exact hc'

/-- What a state that is quiet gives permission to. -/
def State.perm (s : State) (free seq : Prop) : Perm := ⟨¬s.Still, free, seq⟩

theorem State.perm_grants (s : State) (free seq : Prop) : (s.perm free seq).Grants s := Perm.grants_of_still id

theorem State.not_write_of_still {s : State} {free seq : Prop} (h : s.Still) : ¬(s.perm free seq).write := fun hn => hn h

theorem Effect.quiet {s t : State} {free seq : Prop} (e : Effect (s.perm free seq) s t) (h : s.Quiet) : t.Quiet := by
  cases e with
  | moves m => exact m.quiet State.not_write_of_still h
  | turns _ hq => exact hq h
  | fresh _ e => exact State.quiet_of_cleared e

/-- Settles O58: in OFF, STOPPED and FATAL nothing is at work, and no change puts it to work there. -/
theorem quietStaysKept : Obligations.QuietStaysKept := by
  intro s t h hst
  cases hs : s.pending with
  | nil =>
    have et : t = s.tick := by simpa [step, hs] using hst.symm
    rw [et]
    have hq : s.stops.Quiet := (State.stops_effect (s.perm_grants True True)).quiet h
    exact (State.tick_moves (s.stops.perm_grants True True)).quiet State.not_write_of_still hq
  | cons i is =>
    obtain ⟨u, hu, hm⟩ := exec_effect (State.perm_grants { s with pending := is } True True) (i := i)
      (fun _ => trivial) fun _ => trivial
    simp only [step, hs, hu] at hst
    cases hst
    exact hm.quiet h

/-! ### HELD slots and SEQ (R56, R89, R90) -/

/-- What a command without a permission keeps: every edit keeps it, from state to state, and a reset is one of the
permissions or keeps it. -/
theorem exec_or_tick_keeps {R : State → State → Prop} {free seq : Prop} (hr : ∀ s, R s s) (ht : ∀ {a b c}, R a b → R b c → R a c)
    (he : ∀ w a b, Edit ⟨w, free, seq⟩ a b → R a b) (hc : ∀ s t : State, free → t.core = s.cleared.core → R s t) {s t : State}
    (h : (∃ c, (mayEndHeld c → free) ∧ (mayMoveSeq c → seq) ∧ exec c s = .next t) ∨ (s.pending = [] ∧ step s = .next t)) :
    R s t := by
  have edits {a b : State} (hab : Edits ⟨True, free, seq⟩ a b) : R a b := by
    induction hab with
    | refl => exact hr a
    | tail _ e ih => exact ht ih (he _ _ _ e)
  have effect {a b : State} (hab : Effect ⟨True, free, seq⟩ a b) : R a b := by
    cases hab with
    | moves g => exact edits g.edits
    | turns g _ => exact edits g
    | fresh hf g => exact hc _ _ hf g
  have grants (u : State) : Perm.Grants ⟨True, free, seq⟩ u := ⟨fun _ => trivial, fun _ _ => trivial, fun _ => trivial⟩
  rcases h with ⟨c, hf, hs, hu⟩ | ⟨hp, hst⟩
  · obtain ⟨u, hu', hm⟩ := exec_effect (grants s) (i := c) hf hs
    cases hu.symm.trans hu'
    exact effect hm
  · have et : t = s.tick := by simpa [step, hp] using hst.symm
    rw [et]
    exact ht (effect (State.stops_effect (grants s))) (edits (State.tick_moves (grants _)).edits)

/-- A HELD slot stays the slot that it is. -/
def State.KeepsHeld (s t : State) : Prop := ∀ i x, s.slot i = some x → x.st = .held → t.slot i = some x

theorem State.keepsHeld_setSlot {s : State} {i : SlotId} (hi : s.NotHeld i) (y : Option Slot) : s.KeepsHeld (s.setSlot i y) :=
  fun j x hj hx => by
    rw [State.slot_setSlot, if_neg]
    · exact hj
    · rintro rfl
      exact hi x hj hx

theorem Edit.keepsHeld {w seq : Prop} {s t : State} (e : Edit ⟨w, False, seq⟩ s t) : s.KeepsHeld t := by
  have same (u : State) (hu : u.slots = s.slots) : s.KeepsHeld u := fun i x hi _ => by
    simpa only [State.slot, hu] using hi
  cases e with
  | frame e => exact same _ (State.of_core State.slots (fun _ => rfl) e)
  | slot i hx hi => exact State.keepsHeld_setSlot hi _
  | free i hi => exact State.keepsHeld_setSlot (hi.resolve_right id) _
  | reserve i x hi => exact State.keepsHeld_setSlot (fun y hy => nomatch hi.symm.trans hy) _
  | _ => exact same _ rfl

/-- Settles O59: a HELD slot is freed by ENTRY_WRITE_DONE and the resets alone, and no other change is of a HELD slot. -/
theorem heldSlotsStay : Obligations.HeldSlotsStay := by
  intro s t i x hi hx h
  refine exec_or_tick_keeps (R := State.KeepsHeld) (free := False) (seq := True) (fun _ _ _ h _ => h)
    (fun hab hbc j y hj hy => hbc j y (hab j y hj hy) hy) (fun _ _ _ => Edit.keepsHeld) (fun _ _ hf => hf.elim)
    (h.imp_left fun ⟨c, hc, he⟩ => ⟨c, hc, fun _ => trivial, he⟩) i x hi hx

/-- Every record was there, with the SEQ that it has. -/
def State.KeepsSeq (s t : State) : Prop := ∀ n q, t.node n = some q → ∃ r, s.node n = some r ∧ q.seq = r.seq

theorem Edit.keepsSeq {w free : Prop} {s t : State} (e : Edit ⟨w, free, False⟩ s t) : s.KeepsSeq t := by
  have same (u : State) (hu : u.nodes = s.nodes) : s.KeepsSeq u := fun n q hn =>
    ⟨q, by simpa only [State.node, hu] using hn, rfl⟩
  cases e with
  | frame e => exact same _ (State.of_core State.nodes (fun _ => rfl) e)
  | node n hr k =>
    intro m q hm
    rw [State.node_setNode] at hm
    split at hm
    · next e => cases hm; exact ⟨_, e ▸ hr, k.seq.resolve_right id⟩
    · exact ⟨q, hm, rfl⟩
  | vacate n =>
    intro m q hm
    rw [State.node_setNode] at hm
    split at hm
    · cases hm
    · exact ⟨q, hm, rfl⟩
  | create n r _ hP => exact hP.elim
  | _ => exact same _ rfl

/-- Settles O60: an answer, a RESYNC, and SET NODE move a SEQ, and only a character or SET NODE brings them about. -/
theorem seqChangesOnlyWhereItMay : Obligations.SeqChangesOnlyWhereItMay := by
  intro s t n r q h hr hq
  have hk : s.KeepsSeq t := exec_or_tick_keeps (R := State.KeepsSeq) (free := True) (seq := False)
    (fun _ _ q hq => ⟨q, hq, rfl⟩)
    (fun hab hbc n q hq => by
      obtain ⟨r, hr, e⟩ := hbc n q hq
      obtain ⟨p, hp, e'⟩ := hab n r hr
      exact ⟨p, hp, e.trans e'⟩)
    (fun _ _ _ => Edit.keepsSeq)
    (fun s t _ e n q hq => by
      have ht : t.nodes = Vector.replicate 128 none := State.of_core State.nodes (fun _ => rfl) e
      simp [State.node, ht] at hq)
    (h.imp_left fun ⟨c, hc, he⟩ => ⟨c, fun _ => trivial, hc, he⟩)
  obtain ⟨p, hp, e⟩ := hk n q hq
  cases hr.symm.trans hp
  exact e

/-! ### The queue of waiting commands, and the controller state -/

theorem Edit.pending {P : Perm} {s t : State} (e : Edit P s t) : t.pending = s.pending := by
  cases e with
  | frame e => exact State.of_core State.pending (fun _ => rfl) e
  | _ => rfl

theorem Edits.pending {P : Perm} {s t : State} (h : Edits P s t) : t.pending = s.pending := by
  induction h with
  | refl => rfl
  | tail _ e ih => exact e.pending.trans ih

/-- Settles O3: every command has an effect, and no effect touches the queue of commands. -/
theorem everyCommandKeepsTheQueue : Obligations.EveryCommandKeepsTheQueue := by
  intro i s
  obtain ⟨t, ht, h⟩ := exec_effect (s.perm_grants True True) (i := i) (fun _ => trivial) fun _ => trivial
  refine ⟨t, ht, ?_⟩
  cases h with
  | moves h => exact h.edits.pending
  | turns h _ => exact h.pending
  | fresh _ h => exact State.of_core (s := s.cleared) State.pending (fun _ => rfl) h

theorem State.ctl_enterStopped (s : State) : s.enterStopped.ctl = .stopped := rfl

/-- An enable request takes OFF, DRAINING and STOPPED to RUNNING, or changes nothing of the controller state (R176, R179). -/
theorem State.ctl_enable (s : State) :
    s.enable.ctl = s.ctl ∨ ((s.ctl = .off ∨ s.ctl = .draining ∨ s.ctl = .stopped) ∧ s.enable.ctl = .running) := by
  unfold State.enable
  cases hc : s.ctl with
  | off => by_cases hv : s.geometryValid <;> simp [hv]
  | running | draining | stopped | fatal => simp [hc]

/-- A drain request takes RUNNING to DRAINING or STOPPED, or changes nothing of the controller state (R177). -/
theorem State.ctl_drain (s : State) :
    s.drain.ctl = s.ctl ∨ (s.ctl = .running ∧ (s.drain.ctl = .draining ∨ s.drain.ctl = .stopped)) := by
  unfold State.drain
  cases hc : s.ctl with
  | running => by_cases hd : s.stopDue <;> simp [hd, s.ctl_enterStopped]
  | off | draining | stopped | fatal => simp [hc]

theorem State.ctl_stops (s : State) : s.stops.ctl = s.ctl ∨ (s.ctl = .draining ∧ s.stops.ctl = .stopped) := by
  unfold State.stops
  split
  · next h => exact .inr ⟨h.1, s.ctl_enterStopped⟩
  · exact .inl rfl

/-- The changes that the requests of CONTROL make (R184). -/
theorem State.ctl_control (s : State) (w : Word) :
    (s.control w).ctl = s.ctl ∨ (s.control w).ctl = .off ∨
      ((s.ctl = .off ∨ s.ctl = .draining ∨ s.ctl = .stopped) ∧ (s.control w).ctl = .running) ∨
      (s.ctl = .running ∧ ((s.control w).ctl = .draining ∨ (s.control w).ctl = .stopped)) := by
  unfold State.control
  split
  · exact .inr (.inl rfl)
  · split
    · exact s.ctl_enable.imp_right (.inr ∘ .inl)
    · split
      · exact s.ctl_drain.imp_right (.inr ∘ .inr)
      · exact .inl rfl

/-- A target access moves the controller through CONTROL alone. -/
theorem State.ctl_access (s : State) (a : Access) :
    (s.access a).ctl = s.ctl ∨ (s.access a).ctl = (s.control a.value).ctl := by
  have h : Moves ⟨True, True, True⟩ s s := .refl ⟨fun _ => trivial, fun _ _ => trivial, fun _ => trivial⟩
  unfold State.access
  split
  · exact .inl rfl
  · split
    · exact .inl rfl
    · split
      · unfold State.writeReg
        split
        · exact .inr rfl
        · split <;> exact .inl rfl
        · split <;> exact .inl rfl
        · split <;> exact .inl rfl
        · exact .inl (h.post _).ctl
        · exact .inl (h.release _).ctl
        · exact .inl (h.acknowledge _).ctl
        · exact .inl rfl
      · exact .inl rfl

/-- An entry that awaits its end has its write outstanding. -/
theorem State.working_of_entryEnds {s : State} {x : CqId × EntryWork} (h : s.entryEnds = some x) (hq : s.Quiet) :
    s.ctl = .running ∨ s.ctl = .draining := by
  have hw : ¬s.NoWrites := by
    rintro ⟨e, -, -⟩
    simp [State.entryEnds, e] at h
  cases hc : s.ctl with
  | running | draining => simp
  | off | stopped | fatal => exact absurd (hq.2 (by simp [hc])).1 hw

/-- Settles O4: the seven commands that move the controller, one after another. -/
theorem controllerStateMoves : Obligations.ControllerStateMoves := by
  intro i s t hq ht hne
  by_cases hi : movesCtl i
  · have toOff (h : t.ctl = .off) (hm : i = .powerOn ∨ i = .resetRequest ∨ ∃ w, i = .registerWrite w) :
        ctlMove i s.ctl t.ctl := by
      rw [h]
      cases hs : s.ctl <;> exact hm
    cases i <;> try exact absurd hi id
    case powerOn => cases ht; exact toOff rfl (.inl rfl)
    case resetRequest => cases ht; exact toOff rfl (.inr (.inl rfl))
    case enableRequest =>
      cases ht
      obtain ⟨hc, he⟩ := s.ctl_enable.resolve_left hne
      change ctlMove _ _ s.enable.ctl
      rw [he]
      rcases hc with e | e | e <;> rw [e] <;> exact .inl rfl
    case drainRequest =>
      cases ht
      obtain ⟨hc, he⟩ := s.ctl_drain.resolve_left hne
      change ctlMove _ _ s.drain.ctl
      rw [hc]
      rcases he with e | e <;> rw [e] <;> exact .inl rfl
    case registerWrite a =>
      cases ht
      have hctl := (s.ctl_access a).resolve_left hne
      rw [hctl] at hne toOff ⊢
      rcases (s.ctl_control a.value).resolve_left hne with e | ⟨hc, e⟩ | ⟨hc, e⟩
      · exact toOff e (.inr (.inr ⟨a, rfl⟩))
      · rw [e]
        rcases hc with e | e | e <;> rw [e] <;> exact .inr ⟨a, rfl⟩
      · rw [hc]
        rcases e with e | e <;> rw [e] <;> exact .inr ⟨a, rfl⟩
    case entryWriteError =>
      cases ht
      change s.entryFailed.ctl ≠ _ at hne
      change ctlMove _ _ s.entryFailed.ctl
      cases he : s.entryEnds with
      | none => exact absurd (by unfold State.entryFailed; rw [he]) hne
      | some x =>
        have hf : s.entryFailed.ctl = .fatal := by
          unfold State.entryFailed
          rw [he]
          split <;> first | rfl | contradiction
        rw [hf]
        rcases State.working_of_entryEnds he hq with e | e <;> rw [e] <;> rfl
    case controllerStopped =>
      cases ht
      obtain ⟨hc, he⟩ := s.ctl_stops.resolve_left hne
      change ctlMove _ _ s.stops.ctl
      rw [hc, he]
      rfl
  · obtain ⟨u, hu, h⟩ := exec_moves (s.perm_grants True True) hi (fun _ => trivial) fun _ => trivial
    cases ht.symm.trans hu
    exact absurd h.ctl hne

/-- Settles O52: every table is empty, every queue ABSENT and every line OFF. -/
theorem resetMeetsTheInvariants : Obligations.ResetMeetsTheInvariants := by
  have hn (n : NodeId) : State.reset.node n = none := by simp [State.node, State.reset]
  have hp (p : PollId) : State.reset.poll p = none := by simp [State.poll, State.reset]
  have hi (i : SlotId) : State.reset.slot i = none := by simp [State.slot, State.reset]
  have hs (q : SqId) : State.reset.sq q = Sq.absent := by simp [State.sq, State.reset]
  have hc (c : CqId) : State.reset.cq c = Cq.absent := by simp [State.cq, State.reset]
  have hl (l : LineId) : State.reset.line l = Line.offWith LineCfg.default 0 false := by simp [State.line, State.reset]
  refine ⟨List.nodup_nil, fun n m r q h => ?_, fun p e h => ?_, fun q _ => ⟨?_, fun _ => ?_⟩, ⟨fun c h => ?_, ?_, fun _ => rfl⟩,
    fun l => ?_, fun _ => ⟨⟨rfl, rfl, rfl⟩, fun l => ?_⟩⟩
  · exact nomatch (hn n).symm.trans h
  · exact nomatch (hp p).symm.trans h
  · simp [State.occupied, State.slotsOf, hi]
  · rw [hs]; rfl
  · exact absurd (by rw [hc]; rfl) h
  · exact fun e he => nomatch he
  · rw [hl]; simp [Line.Sane, Line.offWith]
  · rw [hl]; rfl

end Sys2Proof.Machine

/-! The fetch engine and the judging of a record (chapters 4 and 7). -/

namespace Sys2Proof.Machine

/-! ### The choice of a queue (R126) -/

theorem mem_hostSqs (q : SqId) : q ∈ hostSqs ↔ q ≠ 0 := by revert q; decide

theorem State.freeSlot_isSome (s : State) : s.freeSlot.isSome = true ↔ ∃ j, s.slot j = none := by
  simp [State.freeSlot, mem_allSlots]

/-- A host queue from which the fetch engine may take a record. -/
def State.Offers (s : State) (cls : SqClass) (q : SqId) : Prop :=
  q ≠ 0 ∧ s.ctl = .running ∧ (s.sq q).st = .active ∧ (s.sq q).cls = cls ∧ (s.sq q).head ≠ (s.sq q).tail ∧
    s.occupied q < (s.sq q).quota ∧ ∃ j, s.slot j = none

theorem State.mem_eligible (s : State) (cls : SqClass) (q : SqId) :
    q ∈ hostSqs.filter (s.eligible cls) ↔ s.Offers cls q := by
  rw [List.mem_filter, mem_hostSqs, State.eligible_iff, State.freeSlot_isSome, State.Offers]

theorem State.pickSq_some {s : State} {cls : SqClass} {pos : Nat} {q : SqId} (h : s.pickSq cls pos = some q) :
    s.Offers cls q ∧ ∀ p, s.Offers cls p → (q.val + 6 - pos) % 7 ≤ (p.val + 6 - pos) % 7 := by
  obtain ⟨hq, hle⟩ := pickMin_some h
  exact ⟨(s.mem_eligible cls q).mp hq, fun p hp => hle p ((s.mem_eligible cls p).mpr hp)⟩

theorem State.pickSq_none (s : State) (cls : SqClass) (pos : Nat) : s.pickSq cls pos = none ↔ ∀ p, ¬s.Offers cls p := by
  refine ⟨fun h p hp => ?_, fun h => ?_⟩
  · have hm := (s.mem_eligible cls p).mpr hp
    rw [pickMin_none h] at hm
    cases hm
  · cases hk : s.pickSq cls pos with
    | none => rfl
    | some q => exact absurd (State.pickSq_some hk).1 (h q)

theorem State.chooseSq_none (s : State) : s.chooseSq = none ↔ ∀ cls p, ¬s.Offers cls p := by
  rw [State.chooseSq, Option.or_eq_none_iff, State.pickSq_none, State.pickSq_none]
  refine ⟨fun ⟨hu, hn⟩ cls => ?_, fun h => ⟨h _, h _⟩⟩
  cases cls with
  | urgent => exact hu
  | normal => exact hn

/-- The position of a class. -/
def State.fetchPos (s : State) (cls : SqClass) : Nat :=
  match cls with
  | .urgent => s.fetchPosU
  | .normal => s.fetchPosN

/-- The queue chosen is the first of its class, and a NORMAL one is chosen only where no URGENT one is offered. -/
theorem State.chooseSq_some {s : State} {q : SqId} (h : s.chooseSq = some q) :
    s.Offers (s.sq q).cls q ∧ ((s.sq q).cls = .normal → ∀ p, ¬s.Offers .urgent p) ∧
      ∀ p, s.Offers (s.sq q).cls p → (q.val + 6 - s.fetchPos (s.sq q).cls) % 7 ≤ (p.val + 6 - s.fetchPos (s.sq q).cls) % 7 := by
  rw [State.chooseSq, Option.or_eq_some_iff] at h
  rcases h with h | ⟨hu, h⟩ <;>
  · obtain ⟨hq, hle⟩ := State.pickSq_some h
    have hc : (s.sq q).cls = _ := hq.2.2.2.1
    rw [hc]
    refine ⟨hq, ?_, hle⟩
    simp_all [State.pickSq_none]

theorem State.freeSlot_first {s : State} {i : SlotId} (h : s.freeSlot = some i) (j : SlotId) (hj : j < i) :
    s.slot j ≠ none := by
  obtain ⟨-, k, hk, hi, hlt⟩ := List.find?_eq_some_iff_getElem.mp h
  have hki : k = i.val := by
    rw [← hi]
    simp [allSlots]
  have hn := hlt j.val (by rw [hki]; exact hj)
  have hjj : allSlots[j.val]'(by simp [allSlots]) = j := by simp [allSlots]
  rw [hjj] at hn
  simpa [Option.isSome_iff_ne_none] using hn

/-- Settles O13: the choice is that of the class's ring of ids, and the reservation is one state. -/
theorem fetchStart : Obligations.FetchStart := by
  intro s
  refine ⟨s.chooseSq_none, fun h => ?_, fun h => ?_, fun q i hq hi => ?_⟩
  · change Host.Outcome.next s.fetchNext = _
    congr 1
    unfold State.fetchNext
    rcases h with h | h
    · split
      · next hc _ => exact nomatch h.symm.trans hc
      · rfl
    · split
      · next hf _ _ => exact absurd hf h
      · rfl
  · obtain ⟨cls, p, hp⟩ := h
    obtain ⟨q, hq⟩ : ∃ q, s.chooseSq = some q :=
      Option.ne_none_iff_exists'.mp fun hn => s.chooseSq_none.mp hn cls p hp
    obtain ⟨i, hi⟩ := Option.isSome_iff_exists.mp (s.freeSlot_isSome.mpr hp.2.2.2.2.2.2)
    exact ⟨q, i, hq, hi⟩
  · intro pos
    obtain ⟨ho, hu, hle⟩ := State.chooseSq_some hq
    have hpos : pos = s.fetchPos (s.sq q).cls := rfl
    refine ⟨ho, hu, hpos ▸ hle, State.freeSlot_some hi, State.freeSlot_first hi, fun hf => ?_⟩
    change Host.Outcome.next s.fetchNext = _
    unfold State.fetchNext
    rw [hf, hq, hi]
    simp only [State.startFetch, Slot.reserved, Sq.addressOf]
    cases (s.sq q).cls <;> rfl

/-! ### The reads of a fetch (R67, R127) -/

theorem recDataLen_eq (r : List Byte) :
    recDataLen r =
      if (byteAt r 0 = 0x01#8 ∨ byteAt r 0 = 0x02#8) ∧ (byteAt r 7).toNat ≤ 48 then (byteAt r 7).toNat else 0 := by
  unfold recDataLen recKind recOpcode recReqLen
  by_cases h1 : byteAt r 0 = 0x01#8
  · simp [h1, Config.maxData]
    rfl
  · by_cases h2 : byteAt r 0 = 0x02#8
    · simp [h2, Config.maxData]
      rfl
    · by_cases h3 : byteAt r 0 = 0x03#8 <;> simp [h1, h2, h3]

theorem State.fetching_of {s : State} {i : SlotId} {x : Slot} (h : s.slot i = some x) (hx : x.st = .fetching) :
    s.fetching i = true := by simp [State.fetching, h, hx]

/-- The bytes of a read that delivers what was asked for. -/
theorem bytesAt_length (l : List Byte) : bytesAt l 0 l.length = l := by
  refine List.ext_getElem (by simp [bytesAt]) fun n h1 h2 => ?_
  simp [bytesAt, byteAt, List.getD_eq_getElem?_getD, h2]

/-- Settles O14: one case for each end of a read. -/
theorem fetchReads : Obligations.FetchReads := by
  intro s i q x b r bytes rec? hx hst hb after n reads
  have hf : s.fetching i = true := State.fetching_of hx hst
  have hlen : recDataLen r = if reads then n else 0 := by
    rw [recDataLen_eq]
    by_cases h : 1 ≤ n
    · simp [reads, h, n]
    · have h0 : n = 0 := by omega
      rw [if_neg fun hr : reads => h hr.2.1]
      exact ite_eq_right_iff.mpr fun _ => h0
  have hread (h : reads) : recDataLen r = n := by rw [hlen, if_pos h]
  refine ⟨fun hs h => ?_, fun hs h => ?_, fun hs h hl => ?_, fun hs => ?_⟩
  · change Host.Outcome.next (s.recordRead r) = _
    unfold State.recordRead
    rw [hs, hb]
    have h0 : n ≠ 0 := Nat.one_le_iff_ne_zero.mp h.2.1
    simp only [hf, hread h, if_false, Bool.true_eq_false, recBuffer]
    rw [if_neg h0]
  · change Host.Outcome.next (s.recordRead r) = _
    unfold State.recordRead
    rw [hs, hb]
    have h0 : recDataLen r = 0 := by rw [hlen, if_neg h]
    simp only [hf, h0]
    rfl
  · change Host.Outcome.next (s.dataRead bytes) = _
    unfold State.dataRead
    rw [hs, hb]
    simp only [hf, hread h, ← hl, bytesAt_length]
    rfl
  · change Host.Outcome.next s.fetchFailed = _
    unfold State.fetchFailed
    rw [hs, hb]
    simp only [hf, Bool.true_eq_false, if_false, State.readErrorOn]
    split
    · next hd => rw [if_pos (show (s.sq q).st = .deleting from hd)]
    · next hd => rw [if_neg (show (s.sq q).st ≠ .deleting from hd), State.stall_pendSq]; rfl

/-! ### The checks (R72, R73) -/

theorem recFieldBad_iff (r : List Byte) : recFieldBad r = true ↔
    (byteAt r 0 ≠ 0x01#8 ∧ byteAt r 0 ≠ 0x02#8 ∧ byteAt r 0 ≠ 0x03#8) ∨ 3 < (byteAt r 4).toNat ∨
      48 < (byteAt r 12).toNat ∨ 15 < (byteAt r 8).toNat ∨ ¬((byteAt r 9).toNat ≤ 7 ∨ (byteAt r 9).toNat = 15) ∨
      (byteAt r 0 = 0x01#8 ∧ (48 < (byteAt r 7).toNat ∨ ¬(1 ≤ (byteAt r 6).toNat ∧ (byteAt r 6).toNat ≤ 0x3B) ∨
        byteAt r 5 = 0x00#8 ∨ byteAt r 5 = 0xFF#8)) ∨
      (byteAt r 0 = 0x02#8 ∧ (48 < (byteAt r 7).toNat ∨
        ¬(1 ≤ (byteAt r 6).toNat ∧ (byteAt r 6).toNat ≤ 0x3B) ∧ byteAt r 6 ≠ 0x3F#8)) ∨
      (byteAt r 0 = 0x03#8 ∧ (byteAt r 5 = 0x00#8 ∨ byteAt r 5 = 0xFF#8)) := by
  have retry (n : Nat) : retryFieldOk n = true ↔ n ≤ 7 ∨ n = 15 := by simp [retryFieldOk]
  have host (f : Byte) : hostFunction f = true ↔ 1 ≤ f.toNat ∧ f.toNat ≤ 0x3B := by simp [hostFunction]
  have uni (a : Byte) : unicast a = true ↔ ¬(a = 0x00#8 ∨ a = 0xFF#8) := by simp [unicast]
  by_cases h1 : byteAt r 0 = 0x01#8
  · have hk : recKind r = some .exchange := by simp [recKind, recOpcode, h1]
    simp only [recFieldBad, hk, Bool.or_eq_true, Bool.not_eq_true', ← Bool.not_eq_true, retry, host, uni, decide_eq_true_eq, not_not]
    simp [h1, recLine, recCapacity, recBusyLimit, recRetryLimit, recReqLen, recFunction, recAddress, Config.maxData, or_assoc]
  · by_cases h2 : byteAt r 0 = 0x02#8
    · have hk : recKind r = some .broadcast := by simp [recKind, recOpcode, h2]
      simp only [recFieldBad, hk, Bool.or_eq_true, Bool.not_eq_true', ← Bool.not_eq_true, retry, host,
        decide_eq_true_eq, beq_iff_eq, not_or]
      simp [h2, recLine, recCapacity, recBusyLimit, recRetryLimit, recReqLen, recFunction, Config.maxData, or_assoc]
    · by_cases h3 : byteAt r 0 = 0x03#8
      · have hk : recKind r = some .discover := by simp [recKind, recOpcode, h3]
        simp only [recFieldBad, hk, Bool.or_eq_true, Bool.not_eq_true', ← Bool.not_eq_true, retry, uni, decide_eq_true_eq, not_not]
        simp [h3, recLine, recCapacity, recBusyLimit, recRetryLimit, recAddress, Config.maxData, or_assoc]
      · have hk : recKind r = none := by simp [recKind, recOpcode, h1, h2, h3]
        simp [recFieldBad, hk, h1, h2, h3]

theorem State.lineRefuses_iff (s : State) (l : LineId) :
    s.lineRefuses l = true ↔ (s.line l).st = .off ∨ (s.line l).stopRequested = true := by
  simp [State.lineRefuses]

theorem State.findNode_isSome (s : State) (l : LineId) (a : Byte) :
    (s.findNode l a).isSome = true ↔ ∃ n nd, s.node n = some nd ∧ nd.line = l ∧ nd.address = a := by
  cases h : s.findNode l a with
  | none => simpa using fun n nd hn hl => fun ha => State.findNode_none h n nd hn ⟨hl, ha⟩
  | some n => simpa using ⟨n, State.findNode_some h⟩

/-- A HELD slot stands at the tail of the held list of its queue's CQ (R89). -/
theorem State.enterHeld_some {s : State} {i : SlotId} {x : Slot} (h : s.slot i = some x) (r : Settled) :
    s.enterHeld i r = (s.setSlot i (some { x with st := .held, settled := some r })).setCq (s.sq x.sq).cq
      { s.cq (s.sq x.sq).cq with held := (s.cq (s.sq x.sq).cq).held ++ [HeldRef.slot i] } := by
  unfold State.enterHeld
  rw [h]
  rfl

/-- A refused record leaves one HELD slot behind. -/
theorem State.refuse_some {s : State} {i : SlotId} {x : Slot} (h : s.slot i = some x) (r : List Byte) (t : Option Txn)
    (st : Status) (n : Option Health) :
    s.refuse i r t st n =
      (s.setSlot i (some { x with tag := recTag r, txn := t, st := .held, settled := some (Settled.plain st 0 0 n false) })).setCq
        (s.sq x.sq).cq { s.cq (s.sq x.sq).cq with held := (s.cq (s.sq x.sq).cq).held ++ [HeldRef.slot i] } := by
  have hm : s.modSlot i (fun y => { y with tag := recTag r, txn := t }) = s.setSlot i (some { x with tag := recTag r, txn := t }) := by
    simp [State.modSlot, h]
  rw [State.refuse, hm, State.enterHeld_some (s.slot_setSlot_self i _)]
  simp

/-- The kind and the line of a record whose first row holds nothing against it. -/
theorem recFieldBad_false {r : List Byte} (h : recFieldBad r = false) : ∃ k l, recKind r = some k ∧ asLine (recLine r) = some l := by
  cases hk : recKind r with
  | none => simp [recFieldBad, hk] at h
  | some k =>
    have hl : recLine r < 4 := by
      by_contra hn
      have : decide (3 < recLine r) = true := decide_eq_true (by omega)
      simp [recFieldBad, hk, this] at h
    exact ⟨k, _, rfl, asLine_of_lt hl⟩

/-- What the slot takes from a record whose kind and line are known, and nothing otherwise (R68; log entry 9). -/
def State.takenOf (s : State) (r data : List Byte) : Option Txn :=
  match recKind r, asLine (recLine r) with
  | some k, some l => some (s.txnOf k l r data)
  | _, _ => none

theorem State.judge_badField {s : State} {i : SlotId} {q : SqId} {r data : List Byte} (h : recFieldBad r = true) :
    s.judge i q r data = s.refuse i r (s.takenOf r data) .invalidField none := by
  unfold State.judge State.takenOf
  cases recKind r <;> cases asLine (recLine r) <;> simp [h]

theorem State.judge_of_check {s : State} {i : SlotId} {q : SqId} {r data : List Byte} {k : Kind} {l : LineId}
    (h : recFieldBad r = false) (hk : recKind r = some k) (hl : asLine (recLine r) = some l) :
    s.judge i q r data =
      match s.fetchCheck k l r with
      | some (st, n) => s.refuse i r (some (s.txnOf k l r data)) st n
      | none => s.acceptRecord i q r (s.txnOf k l r data) := by
  unfold State.judge
  simp only [hk, hl, h]
  rfl

/-- Row 2 for an EXCHANGE: no record has the key, or each that has it is on its way out. -/
theorem State.checkExchange_unknown {s : State} {l : LineId} {r : List Byte}
    (h : ∀ n nd, s.node n = some nd → nd.line = l → nd.address = recAddress r → nd.removal = true) :
    s.checkExchange l r = some (.unknownNode, none) := by
  unfold State.checkExchange
  cases hf : s.findNode l (recAddress r) with
  | none => rfl
  | some n =>
    obtain ⟨nd, hn, hl, ha⟩ := State.findNode_some hf
    simp [hn, h n nd hn hl ha]

/-- The rows of an EXCHANGE of a record that stays. -/
theorem State.checkExchange_some {s : State} {l : LineId} {r : List Byte} {n : NodeId} {nd : Node}
    (hf : s.findNode l (recAddress r) = some n) (hn : s.node n = some nd) (hr : nd.removal = false) :
    s.checkExchange l r =
      if s.lineRefuses l then some (.lineStopped, some nd.health)
      else if nd.health = .disabled then some (.nodeDisabled, some .disabled)
      else if nd.health = .offline then some (.nodeOffline, some .offline)
      else none := by
  unfold State.checkExchange
  simp [hf, hn, hr]

/-- The rows of R72 that hold of a record, as the statement has them, are the row that the check finds first. -/
theorem State.fetchCheck_some {s : State} {r : List Byte} {st : Status} {h : Option Health} {k : LineId}
    (hc : byteAt r 0 = 0x03#8 ∧ (∃ n nd, s.node n = some nd ∧ nd.line = k ∧ nd.address = byteAt r 5) ∧
            st = .invalidField ∧ h = none ∨
         byteAt r 0 = 0x03#8 ∧ (∀ n nd, s.node n = some nd → ¬(nd.line = k ∧ nd.address = byteAt r 5)) ∧
            s.lineRefuses k = true ∧ st = .lineStopped ∧ h = none ∨
         byteAt r 0 = 0x02#8 ∧ s.lineRefuses k = true ∧ st = .lineStopped ∧ h = none ∨
         byteAt r 0 = 0x01#8 ∧ (∀ n nd, s.node n = some nd → nd.line = k → nd.address = byteAt r 5 → nd.removal = true) ∧
            st = .unknownNode ∧ h = none ∨
         byteAt r 0 = 0x01#8 ∧ ∃ n nd, s.findNode k (byteAt r 5) = some n ∧ s.node n = some nd ∧ nd.removal = false ∧
            (s.lineRefuses k = true ∧ st = .lineStopped ∧ h = some nd.health ∨
             ¬s.lineRefuses k = true ∧ nd.health = .disabled ∧ st = .nodeDisabled ∧ h = some .disabled ∨
             ¬s.lineRefuses k = true ∧ nd.health = .offline ∧ st = .nodeOffline ∧ h = some .offline)) :
    ∃ kind, recKind r = some kind ∧ s.fetchCheck kind k r = some (st, h) := by
  rcases hc with ⟨h0, he, rfl, rfl⟩ | ⟨h0, he, hl, rfl, rfl⟩ | ⟨h0, hl, rfl, rfl⟩ | ⟨h0, hn, rfl, rfl⟩ |
    ⟨h0, n, nd, hf, hn, hr, hc⟩
  · refine ⟨.discover, by simp [recKind, recOpcode, h0], ?_⟩
    simp [State.fetchCheck, recAddress, (s.findNode_isSome k (byteAt r 5)).mpr he]
  · refine ⟨.discover, by simp [recKind, recOpcode, h0], ?_⟩
    have hno : (s.findNode k (byteAt r 5)).isSome ≠ true := fun hs =>
      let ⟨n, nd, hn, hk⟩ := (s.findNode_isSome k _).mp hs
      he n nd hn hk
    simp only [State.fetchCheck, recAddress, hno, hl, if_true]
    rfl
  · exact ⟨.broadcast, by simp [recKind, recOpcode, h0], by simp [State.fetchCheck, hl]⟩
  · exact ⟨.exchange, by simp [recKind, recOpcode, h0], State.checkExchange_unknown hn⟩
  · refine ⟨.exchange, by simp [recKind, recOpcode, h0], ?_⟩
    rw [State.fetchCheck, State.checkExchange_some hf hn hr]
    rcases hc with ⟨hl, rfl, rfl⟩ | ⟨hl, hd, rfl, rfl⟩ | ⟨hl, hd, rfl, rfl⟩
    · rw [if_pos hl]
    · rw [if_neg hl, if_pos hd]
    · rw [if_neg hl, if_neg (by simp [hd]), if_pos hd]

/-- Settles O15: the first row that holds decides, and a refusal leaves one HELD slot. -/
theorem refusedRecord : Obligations.RefusedRecord := by
  refine ⟨recFieldBad_iff, fun s i q x r data st h hx hq => ?_⟩
  intro l k taken stopped hc
  subst hq
  have htaken : taken = s.takenOf r data := by
    have hk : k = recKind r := rfl
    have hl : l = asLine (recLine r) := rfl
    unfold taken State.takenOf
    rw [← hk, ← hl]
    cases k with
    | none => rfl
    | some k =>
      cases l with
      | none => rfl
      | some l => cases k <;> rfl
  have hj : s.judge i x.sq r data = s.refuse i r (s.takenOf r data) st h := by
    rcases hc with ⟨hb, rfl, rfl⟩ | ⟨hb, j, hl, hc⟩
    · exact State.judge_badField hb
    · simp only [stopped, ← State.lineRefuses_iff] at hc
      obtain ⟨kind, hk, hchk⟩ := State.fetchCheck_some hc
      have hl' : asLine (recLine r) = some j := hl
      rw [State.judge_of_check hb hk hl', hchk]
      simp [State.takenOf, hk, hl']
  rw [hj, State.refuse_some hx, htaken]
  rfl

/-! ### Admission (R74, R86) -/

/-- A DELETING queue's record is HELD with ABORTED, any other is PENDING on its list. -/
theorem State.acceptRecord_some {s : State} {i : SlotId} {x : Slot} (hx : s.slot i = some x) (r : List Byte) (t : Txn) :
    s.acceptRecord i x.sq r t =
      if (s.sq x.sq).st = .deleting then
        (s.setSlot i (some { x with
          tag := recTag r, txn := some t, st := .held, settled := some (Settled.plain .aborted 0 0 (s.healthOfTxn t) false) })).setCq
          (s.sq x.sq).cq { s.cq (s.sq x.sq).cq with held := (s.cq (s.sq x.sq).cq).held ++ [HeldRef.slot i] }
      else (s.setSlot i (some { x with tag := recTag r, txn := some t, st := .pending })).joinList i t := by
  have hm : s.modSlot i (fun y => { y with tag := recTag r, txn := some t }) =
      s.setSlot i (some { x with tag := recTag r, txn := some t }) := by simp [State.modSlot, hx]
  unfold State.acceptRecord
  rw [hm]
  split
  · rw [State.enterHeld_some (s.slot_setSlot_self i _), State.setSlot_setSlot]
    rfl
  · simp [State.modSlot]

theorem asLine_of_val {n : Nat} {l : LineId} (h : n = l.val) : asLine n = some l := by
  subst h
  exact asLine_of_lt l.isLt

/-- Settles O16: no row holds, and the record is admitted. -/
theorem admittedExchange : Obligations.AdmittedExchange := by
  refine ⟨fun s i q x r data l n nd hx hq hb h0 h4 hf hn hr hd ho hst hsr => ?_, fun s i q x r data l k hx hq hb h4 hk hst hsr => ?_⟩ <;>
    intro t <;> subst hq
  · have hl : s.lineRefuses l ≠ true := fun h => by simp [State.lineRefuses_iff, hst, hsr] at h
    have hchk : s.fetchCheck .exchange l r = none := by
      rw [State.fetchCheck, State.checkExchange_some hf hn hr, if_neg hl, if_neg hd, if_neg ho]
    have hk : recKind r = some .exchange := by simp [recKind, recOpcode, h0]
    have ht : s.txnOf .exchange l r data = t := rfl
    have hh : s.healthOfTxn t = some nd.health := by simp [State.healthOfTxn, State.nodeOfTxn, t, hf, hn]
    have hjoin : (s.setSlot i (some { x with tag := recTag r, txn := some t, st := .pending })).joinList i t =
        (s.setSlot i (some { x with tag := recTag r, txn := some t, st := .pending })).setNode n
          (some { nd with pendingList := nd.pendingList ++ [i] }) := by
      have hf' : (s.setSlot i (some { x with tag := recTag r, txn := some t, st := .pending })).findNode t.line t.address = some n := hf
      unfold State.joinList
      simp only [t] at hf' ⊢
      rw [hf']
      exact State.modNode_some _ hn
    rw [State.judge_of_check hb hk (asLine_of_val h4), hchk]
    dsimp only
    rw [ht, State.acceptRecord_some hx, hh, hjoin]
    rfl
  · have hl : s.lineRefuses l ≠ true := fun h => by simp [State.lineRefuses_iff, hst, hsr] at h
    have hkind : recKind r = some k := by
      rcases hk with ⟨rfl, h0⟩ | ⟨rfl, h0, -⟩ <;> simp [recKind, recOpcode, h0]
    have hchk : s.fetchCheck k l r = none := by
      rcases hk with ⟨rfl, h0⟩ | ⟨rfl, h0, hno⟩
      · simp [State.fetchCheck, hl]
      · have hnone : (s.findNode l (recAddress r)).isSome ≠ true := fun hs =>
          let ⟨n, nd, hn, hk⟩ := (s.findNode_isSome l _).mp hs
          hno n nd hn hk
        simp [State.fetchCheck, hl, hnone]
    have ht : s.txnOf k l r data = t := by
      rcases hk with ⟨rfl, -⟩ | ⟨rfl, -⟩ <;> rfl
    have hh : s.healthOfTxn t = none := by
      rcases hk with ⟨rfl, -⟩ | ⟨rfl, -⟩ <;> rfl
    rw [State.judge_of_check hb hkind (asLine_of_val h4), hchk]
    dsimp only
    rw [ht, State.acceptRecord_some hx, hh]
    rcases hk with ⟨rfl, -⟩ | ⟨rfl, -⟩ <;> rfl

/-! ### SQ0 (R130) -/

theorem State.adminFetchDue_iff (s : State) :
    s.adminFetchDue = true ↔ (s.ctl = .running ∨ s.ctl = .draining) ∧ (s.sq 0).st = .active ∧ (s.sq 0).head ≠ (s.sq 0).tail ∧
      s.adminWork = none ∧ s.adminResult = none ∧ s.ready = [] ∧ s.adRead = none := by
  simp [State.adminFetchDue, State.working, State.adminFree, and_assoc]

/-- Settles O17: the read begins where its conditions hold, and its end is one of three. -/
theorem adminFetch : Obligations.AdminFetch := by
  intro s
  refine ⟨fun hc hst hne hw hr hrd ha => ?_, fun h => ?_, fun hr => ?_, fun hr r => ?_⟩
  · change Host.Outcome.next s.adminFetch = _
    rw [State.adminFetch, if_pos (s.adminFetchDue_iff.mpr ⟨hc, hst, hne, hw, hr, hrd, ha⟩)]
    rfl
  · change Host.Outcome.next s.adminFetch = _
    rw [State.adminFetch, if_neg]
    rw [State.adminFetchDue_iff]
    rintro ⟨hc, hst, hne, hw, hres, hrd, -⟩
    rcases h with ⟨h1, h2⟩ | h | h | h | h | h
    · exact hc.elim h1 h2
    all_goals contradiction
  · change Host.Outcome.next s.adminFetchFailed = _
    rw [State.adminFetchFailed, if_pos (State.adminReading_of hr), State.stall_pendSq]
    rfl
  · change Host.Outcome.next (s.take _) = _
    rw [State.take_eq hr]
    rfl

end Sys2Proof.Machine

/-! The withdrawal of poll entries one after another, and their resuming (R116 to R118, R178). -/

namespace Sys2Proof.Machine

/-! ### Entries withdrawn one after another -/

/-- An entry for which `c` holds is withdrawn and changed by `g`; any other is left as it is. -/
def State.withdrawAs (c : Poll → Bool) (g : Poll → Poll) (s : State) (p : PollId) : State :=
  match s.poll p with
  | none => s
  | some e => if c e then (s.withdraw p).modPoll p g else s

/-- The entry as it is left. -/
def Poll.withdrawnAs (c : Poll → Bool) (g : Poll → Poll) (e : Poll) : Poll := if c e then g e.withdrawn else e

theorem State.poll_withdraw (s : State) (p q : PollId) :
    (s.withdraw p).poll q = if p = q then (s.poll q).map Poll.withdrawn else s.poll q := by
  unfold State.withdraw
  split
  · next h => split <;> simp_all
  · next e h =>
    dsimp only
    have hp : (s.setPoll p (some e.withdrawn)).poll q = if p = q then (s.poll q).map Poll.withdrawn else s.poll q := by
      rw [State.poll_setPoll]
      split
      · next hpq => subst hpq; simp [h]
      · rfl
    split <;> exact hp

theorem State.node_withdraw (s : State) (p : PollId) (n : NodeId) :
    (s.withdraw p).node n = (s.node n).map fun r =>
      match s.poll p with
      | some e => if e.inst ≠ none ∧ e.node = n then r.dropPoll p else r
      | none => r := by
  unfold State.withdraw
  cases h : s.poll p with
  | none => simp
  | some e =>
    cases hi : e.inst with
    | none => simp [hi]
    | some k =>
      simp only [hi, Option.isSome_some, if_true, ne_eq, reduceCtorEq, not_false_iff, true_and, State.modNode,
        State.node_setNode]
      split
      · next hn => subst hn; rfl
      · simp

theorem State.withdrawAs_frame (c : Poll → Bool) (g : Poll → Poll) (s : State) (p : PollId) :
    s.withdrawAs c g p = { s with nodes := (s.withdrawAs c g p).nodes, polls := (s.withdrawAs c g p).polls } := by
  unfold State.withdrawAs
  split
  · rfl
  · split
    · unfold State.modPoll State.setPoll; dsimp only; rw [s.withdraw_frame p]
    · rfl

theorem State.poll_withdrawAs (c : Poll → Bool) (g : Poll → Poll) (s : State) (p q : PollId) :
    (s.withdrawAs c g p).poll q = if p = q then (s.poll q).map (Poll.withdrawnAs c g) else s.poll q := by
  unfold State.withdrawAs
  split
  · next h => split <;> simp_all
  · next e h =>
    split
    · next hc =>
      rw [State.modPoll, State.poll_setPoll, State.poll_withdraw, State.poll_withdraw]
      split
      · next hpq => subst hpq; simp [h, Poll.withdrawnAs, hc]
      · rfl
    · next hc =>
      split
      · next hpq => subst hpq; simp [h, Poll.withdrawnAs, hc]
      · rfl

theorem State.node_withdrawAs (c : Poll → Bool) (g : Poll → Poll) (s : State) (p : PollId) (n : NodeId) :
    (s.withdrawAs c g p).node n = (s.node n).map fun r =>
      match s.poll p with
      | some e => if c e = true ∧ e.inst ≠ none ∧ e.node = n then r.dropPoll p else r
      | none => r := by
  unfold State.withdrawAs
  cases h : s.poll p with
  | none => simp
  | some e =>
    dsimp only
    split
    · next hc =>
      have hm : ((s.withdraw p).modPoll p g).node n = (s.withdraw p).node n := rfl
      rw [hm, State.node_withdraw, h]
      simp [hc]
    · next hc => simp [hc]

/-- An entry of the list is withdrawn with an instance that the record's open exchange names. -/
def State.Frees (c : Poll → Bool) (s : State) (l : List PollId) (n : NodeId) (r : Node) : Prop :=
  ∃ p ∈ l, ∃ e, s.poll p = some e ∧ c e = true ∧ e.inst ≠ none ∧ e.node = n ∧ r.openX = some (.poll p)

theorem Node.dropPoll_eq (r : Node) (p : PollId) :
    r.dropPoll p = if r.openX = some (.poll p) then { r with openX := none } else r := by
  unfold Node.dropPoll
  split
  · rfl
  · rfl

/-- What a list of withdrawals leaves: each entry of the list once, each record that names one of them freed, nothing else. -/
theorem State.foldl_withdrawAs (c : Poll → Bool) (g : Poll → Poll) {l : List PollId} (hl : l.Nodup) (s : State) :
    let t := l.foldl (State.withdrawAs c g) s
    t = { s with nodes := t.nodes, polls := t.polls } ∧
      (∀ q, t.poll q = if q ∈ l then (s.poll q).map (Poll.withdrawnAs c g) else s.poll q) ∧
      (∀ n, s.node n = none → t.node n = none) ∧
      ∀ n r, s.node n = some r →
        (s.Frees c l n r → t.node n = some { r with openX := none }) ∧ (¬s.Frees c l n r → t.node n = some r) := by
  induction l generalizing s with
  | nil => exact ⟨rfl, by simp, fun _ h => h, fun _ _ h => ⟨fun ⟨_, hp, _⟩ => (nomatch hp), fun _ => h⟩⟩
  | cons p l ih =>
    obtain ⟨hp, hl⟩ := List.nodup_cons.mp hl
    obtain ⟨hframe, hpoll, hnone, hsome⟩ := ih hl (s.withdrawAs c g p)
    have hq (q : PollId) (h : q ∈ l) : (s.withdrawAs c g p).poll q = s.poll q := by
      rw [State.poll_withdrawAs, if_neg]
      rintro rfl
      exact hp h
    simp only [List.foldl_cons]
    refine ⟨?_, fun q => ?_, fun n hn => hnone n ?_, fun n r hr => ?_⟩
    · rw [hframe, s.withdrawAs_frame c g p]
    · rw [hpoll, State.poll_withdrawAs]
      by_cases h : p = q
      · subst h; simp [hp]
      · simp [h, Ne.symm h]
    · rw [State.node_withdrawAs, hn]; rfl
    · have same (r' : Node) (h : r'.openX = r.openX) : (s.withdrawAs c g p).Frees c l n r' ↔ s.Frees c l n r := by
        unfold State.Frees
        rw [h]
        exact exists_congr fun q => and_congr_right fun h => by rw [hq q h]
      have h1 : (s.withdrawAs c g p).node n = some (match s.poll p with
          | some e => if c e = true ∧ e.inst ≠ none ∧ e.node = n then r.dropPoll p else r
          | none => r) := by rw [State.node_withdrawAs, hr]; rfl
      by_cases hf : ∃ e, s.poll p = some e ∧ c e = true ∧ e.inst ≠ none ∧ e.node = n ∧ r.openX = some (.poll p)
      · obtain ⟨e, he, hc, hi, hn, ho⟩ := hf
        rw [he] at h1
        simp only [hc, hi, hn, ne_eq, not_false_iff, and_self, if_true, Node.dropPoll_eq, ho] at h1
        have hfree : s.Frees c (p :: l) n r := ⟨p, List.mem_cons_self, e, he, hc, hi, hn, ho⟩
        have hno : ¬(s.withdrawAs c g p).Frees c l n { r with openX := none } := fun ⟨_, _, _, _, _, _, _, h⟩ => nomatch h
        exact ⟨fun _ => (hsome n _ h1).2 hno, fun h => absurd hfree h⟩
      · have h2 : (s.withdrawAs c g p).node n = some r := by
          rw [h1]
          congr 1
          split
          · next e he =>
            split
            · next hc =>
              rw [Node.dropPoll_eq, if_neg fun ho => hf ⟨e, he, hc.1, hc.2.1, hc.2.2, ho⟩]
            · rfl
          · rfl
        have hiff : s.Frees c (p :: l) n r ↔ s.Frees c l n r := by
          unfold State.Frees
          simp only [List.mem_cons]
          constructor
          · rintro ⟨q, rfl | h, hfree⟩
            · exact absurd hfree hf
            · exact ⟨q, h, hfree⟩
          · rintro ⟨q, h, hfree⟩
            exact ⟨q, .inr h, hfree⟩
        rw [hiff, ← same r rfl]
        exact hsome n r h2

/-! ### Suspending (R117) and stopping (R178) -/

/-- An ACTIVE entry that is not on its way out. -/
def Poll.suspends (e : Poll) : Bool := decide (e.st = .active ∧ e.removal = false)

theorem State.suspend_eq (s : State) (p : PollId) :
    s.suspend p = s.withdrawAs Poll.suspends (fun x => { x with st := .suspended }) p := by
  unfold State.suspend State.withdrawAs
  cases s.poll p with
  | none => rfl
  | some e => simp [Poll.suspends]

theorem State.stopPoll_eq (s : State) (p : PollId) :
    s.stopPoll p = s.withdrawAs (·.inst.isSome) (fun x => { x with nextDue := some s.ms }) p := rfl

theorem State.foldl_suspend (l : List PollId) (s : State) :
    l.foldl State.suspend s = l.foldl (State.withdrawAs Poll.suspends fun x => { x with st := .suspended }) s := by
  congr 1
  funext t p
  exact t.suspend_eq p

/-- The time of a stop is one for all entries. -/
theorem State.foldl_stopPoll (l : List PollId) (s : State) :
    l.foldl State.stopPoll s = l.foldl (State.withdrawAs (·.inst.isSome) fun x => { x with nextDue := some s.ms }) s := by
  induction l generalizing s with
  | nil => rfl
  | cons p l ih =>
    have hms : (s.stopPoll p).ms = s.ms := by rw [s.stopPoll_frame p]
    rw [List.foldl_cons, List.foldl_cons, ih, hms]
    rfl

theorem State.mem_pollsOfLine {s : State} {l : LineId} {p : PollId} :
    p ∈ s.pollsOfLine l ↔ ∃ e, s.poll p = some e ∧ ∃ r, s.node e.node = some r ∧ r.line = l := by
  cases h : s.poll p with
  | none => simp [State.pollsOfLine, h]
  | some e => simp [State.pollsOfLine, mem_allPolls, h, State.pollLine]

theorem nodup_allPolls : allPolls.Nodup := List.nodup_finRange 64

/-- The entries of a line after it enters OFF (R117): suspended, each node's open exchange freed that named one of them. -/
theorem State.suspendLine_spec (s : State) (l : LineId) :
    s.suspendLine l = { s with polls := (s.suspendLine l).polls, nodes := (s.suspendLine l).nodes } ∧
    (∀ p, s.poll p = none → (s.suspendLine l).poll p = none) ∧
    (∀ p e, s.poll p = some e →
      let goes := e.st = .active ∧ e.removal = false ∧ ∃ r, s.node e.node = some r ∧ r.line = l
      (goes → (s.suspendLine l).poll p = some
        { e with st := .suspended, due := false, inst := none, baseline := false, nextDue := none }) ∧
      (¬goes → (s.suspendLine l).poll p = some e)) ∧
    (∀ n, s.node n = none → (s.suspendLine l).node n = none) ∧
    ∀ n r, s.node n = some r →
      let freed := r.line = l ∧ ∃ p e, s.poll p = some e ∧ e.node = n ∧ e.st = .active ∧ e.removal = false ∧
        e.inst ≠ none ∧ r.openX = some (.poll p)
      (freed → (s.suspendLine l).node n = some { r with openX := none }) ∧
        (¬freed → (s.suspendLine l).node n = some r) := by
  have hspec := State.foldl_withdrawAs Poll.suspends (fun x => { x with st := .suspended })
    (l := s.pollsOfLine l) (nodup_allPolls.filter _) s
  dsimp only at hspec
  rw [← State.foldl_suspend] at hspec
  obtain ⟨hframe, hpoll, hnone, hsome⟩ := hspec
  refine ⟨hframe, fun p hp => ?_, fun p e he => ?_, hnone, fun n r hr => ?_⟩
  · exact (hpoll p).trans (by simp [hp])
  · have hp := hpoll p
    rw [he] at hp
    refine ⟨fun ⟨ha, hrm, hr⟩ => ?_, fun hn => ?_⟩
    · refine hp.trans ?_
      rw [if_pos (State.mem_pollsOfLine.mpr ⟨e, he, hr⟩)]
      simp [Poll.withdrawnAs, Poll.suspends, ha, hrm, Poll.withdrawn]
    · refine hp.trans ?_
      split
      · next hm =>
        obtain ⟨e', he', hr⟩ := State.mem_pollsOfLine.mp hm
        cases he.symm.trans he'
        have : Poll.suspends e ≠ true := fun hs => hn (by
          simp only [Poll.suspends, decide_eq_true_eq] at hs
          exact ⟨hs.1, hs.2, hr⟩)
        simp [Poll.withdrawnAs, this]
      · rfl
  · have hiff : s.Frees Poll.suspends (s.pollsOfLine l) n r ↔ r.line = l ∧ ∃ p e, s.poll p = some e ∧ e.node = n ∧
        e.st = .active ∧ e.removal = false ∧ e.inst ≠ none ∧ r.openX = some (.poll p) := by
      unfold State.Frees
      constructor
      · rintro ⟨p, hp, e, he, hc, hi, hn, ho⟩
        obtain ⟨e', he', r', hr', hl⟩ := State.mem_pollsOfLine.mp hp
        cases he.symm.trans he'
        rw [hn] at hr'
        cases hr.symm.trans hr'
        simp only [Poll.suspends, decide_eq_true_eq] at hc
        exact ⟨hl, p, e, he, hn, hc.1, hc.2, hi, ho⟩
      · rintro ⟨hl, p, e, he, hn, ha, hrm, hi, ho⟩
        exact ⟨p, State.mem_pollsOfLine.mpr ⟨e, he, r, hn ▸ hr, hl⟩, e, he, by simp [Poll.suspends, ha, hrm], hi, hn, ho⟩
    rw [← hiff]
    exact hsome n r hr

/-! ### Resuming (R118) -/

/-- A SUSPENDED entry that is not on its way out is ACTIVE, due at once, its baseline invalid. -/
def Poll.resumed (ms : Word) (e : Poll) : Poll :=
  if e.st = .suspended ∧ e.removal = false then { e with st := .active, nextDue := some ms, baseline := false } else e

theorem Poll.resumed_resumed (ms : Word) (e : Poll) : (e.resumed ms).resumed ms = e.resumed ms := by
  unfold Poll.resumed
  split
  · simp
  · rfl

theorem State.foldl_resume (l : List PollId) (s : State) :
    l.foldl State.resume s = { s with polls := (l.foldl State.resume s).polls } ∧
      ∀ q, (l.foldl State.resume s).poll q = if q ∈ l then (s.poll q).map (Poll.resumed s.ms) else s.poll q := by
  induction l generalizing s with
  | nil => exact ⟨rfl, by simp⟩
  | cons p l ih =>
    obtain ⟨hframe, hpoll⟩ := ih (s.resume p)
    rw [List.foldl_cons]
    refine ⟨hframe, fun q => ?_⟩
    have hq : (s.resume p).poll q = if p = q then (s.poll q).map (Poll.resumed s.ms) else s.poll q := by
      rw [State.resume, State.modPoll, State.poll_setPoll]
      split
      · next h => subst h; rfl
      · rfl
    have hms : (s.resume p).ms = s.ms := rfl
    rw [hpoll, hq, hms]
    by_cases hp : p = q
    · subst hp
      rw [if_pos rfl, if_pos List.mem_cons_self]
      split
      · rw [Option.map_map]
        congr 1
        funext e
        exact Poll.resumed_resumed _ e
      · rfl
    · simp [hp, Ne.symm hp]

/-- The entries that a resuming reaches, and those it does not. -/
theorem State.foldl_resume_spec (s : State) (l : List PollId) :
    l.foldl State.resume s = { s with polls := (l.foldl State.resume s).polls } ∧
    (∀ p, s.poll p = none → (l.foldl State.resume s).poll p = none) ∧
    ∀ p e, s.poll p = some e →
      let back := p ∈ l ∧ e.st = .suspended ∧ e.removal = false
      (back → (l.foldl State.resume s).poll p = some { e with st := .active, nextDue := some s.ms, baseline := false }) ∧
      (¬back → (l.foldl State.resume s).poll p = some e) := by
  obtain ⟨hframe, hpoll⟩ := State.foldl_resume l s
  refine ⟨hframe, fun p hp => by simp [hpoll, hp], fun p e he => ⟨fun ⟨hm, hs, hr⟩ => ?_, fun hn => ?_⟩⟩
  · simp [hpoll, he, hm, Poll.resumed, hs, hr]
  · rw [hpoll, he]
    split
    · next hm =>
      have : ¬(e.st = .suspended ∧ e.removal = false) := fun h => hn ⟨hm, h⟩
      simp [Poll.resumed, this]
    · rfl

end Sys2Proof.Machine

/-! The step, the resets, enabling, stopping and the register window (chapter 10). -/

namespace Sys2Proof.Machine

/-- Settles O1: the front of the queue is what a step runs. -/
theorem stepRunsTheFrontCommand : Obligations.StepRunsTheFrontCommand := fun _ _ _ => rfl

/-! ### Resets (R182) -/

theorem State.line_cleared (s : State) (l : LineId) : s.cleared.line l = (s.line l).cleared :=
  match l with
  | 0 | 1 | 2 | 3 => rfl

/-- What power-on leaves is what a reset leaves, whatever was before. -/
theorem State.atReset_cleared (s : State) : s.cleared.AtReset := by
  refine ⟨rfl, rfl, rfl, rfl, rfl, rfl, fun l => ?_, fun l => ?_, fun n => ?_, fun i => ?_, fun p => ?_, fun q => ?_, fun c => ?_,
    rfl, rfl, rfl, rfl, rfl, rfl, rfl, rfl, rfl, rfl, rfl, ⟨rfl, rfl, rfl, rfl, rfl⟩⟩
  · rw [s.line_cleared]
    exact ⟨rfl, rfl, rfl, rfl, rfl, rfl, rfl, rfl, rfl, rfl, rfl, rfl, rfl⟩
  · have h : s.cleared.sched l = Sched.reset := by simp [State.sched, State.cleared, State.reset]
    rw [h]
    exact ⟨rfl, rfl, rfl, rfl, rfl⟩
  · simp [State.node, State.cleared, State.reset]
  · simp [State.slot, State.cleared, State.reset]
  · simp [State.poll, State.cleared, State.reset]
  · simp [State.sq, State.cleared, State.reset, Sq.absent]
  · have h : s.cleared.cq c = Cq.absent := by simp [State.cq, State.cleared, State.reset]
    rw [h]
    exact ⟨rfl, rfl, rfl, rfl⟩

/-- Settles O5: both resets leave the cleared state, but for the geometry and the answer. -/
theorem resets : Obligations.Resets := by
  intro s cut low
  have hlow (l : LineId) : (s.cleared.line l).space = low l := by rw [s.line_cleared]; rfl
  exact ⟨⟨_, rfl, s.atReset_cleared, hlow, rfl, rfl, rfl, rfl⟩, ⟨_, rfl, s.atReset_cleared, hlow, rfl, rfl, rfl, rfl⟩⟩

/-! ### Enabling and draining (R176, R177, R179) -/

theorem State.geometryValid_iff (s : State) : s.geometryValid = true ↔
    (2 ≤ s.adminSqSize.toNat ∧ s.adminSqSize.toNat ≤ 4096) ∧ (2 ≤ s.adminCqSize.toNat ∧ s.adminCqSize.toNat ≤ 4096) ∧
      s.asqBase.toNat % 64 = 0 ∧ s.acqBase.toNat % 16 = 0 := by
  simp [State.geometryValid, sizeOk, aligned, and_assoc]

/-- Settles O6: one row for each controller state. -/
theorem enableAndDrain : Obligations.EnableAndDrain := by
  intro s
  refine ⟨?_, fun hc hd => ?_, fun hc hd => ?_, fun hc => ?_⟩
  · change Host.Outcome.next s.enable.accepted = _
    unfold State.enable
    cases hc : s.ctl with
    | off =>
      simp only [State.geometryValid_iff]
      split <;> rfl
    | running | draining | stopped | fatal =>
      cases s
      cases hc
      rfl
  · change Host.Outcome.next s.drain.accepted = _
    simp [State.drain, hc, hd, State.accepted]
  · change Host.Outcome.next s.drain.accepted = _
    simp [State.drain, hc, hd, State.accepted]
  · change Host.Outcome.next s.drain.accepted = _
    have h : s.drain = s := by
      unfold State.drain
      split
      · contradiction
      · rfl
    rw [h]
    rfl

/-! ### Entry to STOPPED (R178) -/

theorem State.stopDue_of {s : State} (hslot : ∀ i, s.slot i = none) (hl : ∀ l, (s.line l).st = .idle ∨ (s.line l).st = .off)
    (hw : s.adminWork = none) (hr : s.adRead = none) (hwr : s.writer = none) (hn : s.NoWrites) : s.stopDue = true :=
  s.stopDue_iff.mpr ⟨hslot, hl, hw, hr, hwr, hn⟩

theorem State.poll_enterStopped (s : State) (p : PollId) :
    s.enterStopped.poll p = (allPolls.foldl State.stopPoll s).poll p := by
  unfold State.enterStopped
  generalize allPolls.foldl State.stopPoll s = t
  rfl

theorem State.node_enterStopped (s : State) (n : NodeId) :
    s.enterStopped.node n = (allPolls.foldl State.stopPoll s).node n := by
  unfold State.enterStopped
  generalize allPolls.foldl State.stopPoll s = t
  rfl

/-- Settles O7: entry to STOPPED withdraws every instance in flight, one entry after another. -/
theorem entryToStopped : Obligations.EntryToStopped := by
  refine fun s => ⟨fun hc hslot hl hw hr hwr hn => ?_, fun h => ?_⟩
  · have hst : s.stops = s.enterStopped := if_pos ⟨hc, State.stopDue_of hslot hl hw hr hwr hn⟩
    have hspec := State.foldl_withdrawAs (·.inst.isSome) (fun x => { x with nextDue := some s.ms }) nodup_allPolls s
    dsimp only at hspec
    rw [← State.foldl_stopPoll] at hspec
    obtain ⟨-, hpoll, hnone, hsome⟩ := hspec
    simp only [mem_allPolls, if_true] at hpoll
    simp only [← State.poll_enterStopped] at hpoll
    simp only [← State.node_enterStopped] at hnone hsome
    have hframe := s.enterStopped_frame
    have hexec : exec .controllerStopped s = .next s.enterStopped := congrArg Host.Outcome.next hst
    generalize s.enterStopped = t at *
    refine ⟨t, hexec, hframe, fun p hp => ?_, fun p e he hi => ?_, fun p e he hi => ?_, hnone,
      fun n r hnr => ⟨fun hf => (hsome n r hnr).1 ?_, fun hf => (hsome n r hnr).2 ?_⟩⟩
    · rw [hpoll, hp]; rfl
    · rw [hpoll, he]; simp [Poll.withdrawnAs, hi]
    · rw [hpoll, he]
      have hs : e.inst.isSome = true := Option.isSome_iff_ne_none.mpr hi
      simp [Poll.withdrawnAs, hs, Poll.withdrawn]
    · obtain ⟨p, e, he, hn', hi, ho⟩ := hf
      exact ⟨p, mem_allPolls p, e, he, Option.isSome_iff_ne_none.mpr hi, hi, hn', ho⟩
    · rintro ⟨p, -, e, he, -, hi, hn', ho⟩
      exact hf p e he hn' hi ho
  · have hst : s.stops = s := by
      refine if_neg fun hs => ?_
      obtain ⟨hslot, hl, hw, hr, hwr, -⟩ := s.stopDue_iff.mp hs.2
      rcases h with h | ⟨i, hi⟩ | ⟨l, h1, h2⟩ | h | h | h
      · exact h hs.1
      · exact hi (hslot i)
      · exact (hl l).elim h1 h2
      · exact h hw
      · exact h hr
      · exact h hwr
    change Host.Outcome.next s.stops = _
    rw [hst]

end Sys2Proof.Machine

namespace Sys2Proof.Machine

/-! ### STATUS and CAUSE, bit by bit (R190) -/

theorem bit_eq (b : Bool) (k : Nat) : bit b k = b.toNat * 2 ^ k := by cases b <;> simp [bit]

theorem decide_toNat (b : Bool) : decide (b.toNat = 1) = b := by cases b <;> rfl

/-- The fields of STATUS do not overlap. -/
theorem State.statusReg_toNat (s : State) :
    ∃ a b e, s.statusReg.toNat = a + 16 * b + 256 * e ∧ a = s.ctl.code ∧ b = s.fatalCause.code ∧ e = s.configError.toNat ∧
      a < 8 ∧ b < 4 ∧ e < 2 := by
  have ha : s.ctl.code < 8 := by cases s.ctl <;> decide
  have hb : s.fatalCause.code < 4 := by cases s.fatalCause <;> decide
  have he : s.configError.toNat < 2 := Bool.toNat_lt _
  refine ⟨_, _, _, ?_, rfl, rfl, rfl, ha, hb, he⟩
  rw [State.statusReg, BitVec.toNat_ofNat, bit_eq]
  omega

theorem getLsbD_eq_decide (w : Word) (k : Nat) : w.getLsbD k = decide (w.toNat / 2 ^ k % 2 = 1) := by
  rw [BitVec.getLsbD, Nat.testBit_eq_decide_div_mod_eq]

/-- Above its highest field a number has no bit. -/
theorem getLsbD_of_lt {w : Word} {n k : Nat} (h : w.toNat < 2 ^ n) (hk : n ≤ k) : w.getLsbD k = false := by
  rw [BitVec.getLsbD]
  exact Nat.testBit_lt_two_pow (h.trans_le (Nat.pow_le_pow_right (by decide) hk))

/-- The causes stand at bits 0 to 3 and 31. -/
theorem State.causeReg_toNat (s : State) :
    s.causeReg.toNat = s.cqs[0].cause.toNat + 2 * s.cqs[1].cause.toNat + 4 * s.cqs[2].cause.toNat +
      8 * s.cqs[3].cause.toNat + 2147483648 * s.fatalIrq.toNat := by
  have h0 := Bool.toNat_lt s.cqs[0].cause
  have h1 := Bool.toNat_lt s.cqs[1].cause
  have h2 := Bool.toNat_lt s.cqs[2].cause
  have h3 := Bool.toNat_lt s.cqs[3].cause
  have h4 := Bool.toNat_lt s.fatalIrq
  rw [State.causeReg, BitVec.toNat_ofNat]
  simp only [bit_eq]
  omega

theorem State.statusReg_spec (s : State) :
    (s.statusReg.extractLsb' 0 3).toNat = s.ctl.code ∧ (s.statusReg.extractLsb' 4 2).toNat = s.fatalCause.code ∧
      s.statusReg.getLsbD 8 = s.configError ∧
      ∀ k, k ≠ 0 → k ≠ 1 → k ≠ 2 → k ≠ 4 → k ≠ 5 → k ≠ 8 → s.statusReg.getLsbD k = false := by
  obtain ⟨a, b, e, h, ha, hb, he, la, lb, le⟩ := s.statusReg_toNat
  refine ⟨?_, ?_, ?_, fun k h0 h1 h2 h4 h5 h8 => ?_⟩
  · rw [BitVec.extractLsb'_toNat, h, ← ha, Nat.shiftRight_eq_div_pow]
    omega
  · rw [BitVec.extractLsb'_toNat, h, ← hb, Nat.shiftRight_eq_div_pow]
    omega
  · rw [getLsbD_eq_decide, h, ← decide_toNat s.configError, ← he]
    congr 1
    rw [eq_iff_iff]
    omega
  · by_cases hk : 9 ≤ k
    · exact getLsbD_of_lt (n := 9) (by omega) hk
    · rw [getLsbD_eq_decide, h, decide_eq_false_iff_not]
      obtain rfl | rfl | rfl : k = 3 ∨ k = 6 ∨ k = 7 := by omega
      all_goals omega

theorem State.causeReg_spec (s : State) :
    (∀ c : CqId, s.causeReg.getLsbD c.val = (s.cq c).cause) ∧ s.causeReg.getLsbD 31 = s.fatalIrq ∧
      ∀ k, 4 ≤ k → k ≠ 31 → s.causeReg.getLsbD k = false := by
  have h := s.causeReg_toNat
  have h0 := Bool.toNat_lt s.cqs[0].cause
  have h1 := Bool.toNat_lt s.cqs[1].cause
  have h2 := Bool.toNat_lt s.cqs[2].cause
  have h3 := Bool.toNat_lt s.cqs[3].cause
  have h4 := Bool.toNat_lt s.fatalIrq
  have bitIs {k : Nat} {b : Bool} (hb : s.causeReg.toNat / 2 ^ k % 2 = b.toNat) : s.causeReg.getLsbD k = b := by
    rw [getLsbD_eq_decide, hb, decide_toNat]
  refine ⟨fun c => match c with
    | 0 | 1 | 2 | 3 => bitIs ?_, bitIs ?_, fun k hk hne => ?_⟩
  · change _ = s.cqs[0].cause.toNat; simp only [Fin.val_zero]; omega
  · change _ = s.cqs[1].cause.toNat; simp only [Fin.val_one]; omega
  · change _ = s.cqs[2].cause.toNat; simp only [Fin.val_two]; omega
  · change s.causeReg.toNat / 2 ^ 3 % 2 = s.cqs[3].cause.toNat; omega
  · omega
  · by_cases hlt : k < 31
    · rw [getLsbD_eq_decide, decide_eq_false_iff_not, h]
      interval_cases k <;> omega
    · exact getLsbD_of_lt (n := 32) s.causeReg.isLt (by omega)

theorem State.interruptLine_iff (s : State) :
    s.interruptLine = true ↔ (∃ c, (s.cq c).cause = true) ∨ s.fatalIrq = true := by
  have h : (∃ c, (s.cq c).cause = true) ↔
      s.cqs[0].cause = true ∨ s.cqs[1].cause = true ∨ s.cqs[2].cause = true ∨ s.cqs[3].cause = true := by
    simp [Fin.exists_fin_succ, State.cq]
  rw [h]
  simp [State.interruptLine, or_assoc]

/-- Settles O9: one access after another. -/
theorem registerWindow : Obligations.RegisterWindow := by
  intro s a w
  obtain ⟨hst, hfc, hce, hrest⟩ := s.statusReg_spec
  obtain ⟨hcq, hf, hz⟩ := s.causeReg_spec
  refine ⟨fun hlt hw => ?_, by rw [exec_regWrite s _ _ (by decide) (by decide)]; rfl, ?_, ?_, ?_,
    exec_regRead s 8 (by decide) (by decide), exec_regRead s 12 (by decide) (by decide), exec_regRead s 16 (by decide) (by decide),
    exec_regRead s 20 (by decide) (by decide), exec_regRead s 24 (by decide) (by decide), s.statusReg, s.causeReg,
    exec_regRead s 4 (by decide) (by decide), exec_regRead s 28 (by decide) (by decide), ?_, ?_, hce, hrest, hcq, hf, hz,
    s.interruptLine_iff⟩
  · change Host.Outcome.next (s.access a) = _
    rw [State.access, if_neg (by omega), if_pos hw]
  · rw [exec_regWrite s _ _ (by decide) (by decide)]
    by_cases h : s.ctl = .off <;> simp [State.writeReg, h, State.accepted]
  · rw [exec_regWrite s _ _ (by decide) (by decide)]
    by_cases h : s.ctl = .off <;> simp [State.writeReg, h, State.accepted]
  · rw [exec_regWrite s _ _ (by decide) (by decide)]
    by_cases h : s.ctl = .off <;> simp [State.writeReg, h, State.accepted]
  · rw [hst]; cases s.ctl <;> rfl
  · rw [hfc]; cases s.fatalCause <;> rfl

/-! ### The tick (R2, R18, R178, R182) -/

/-- Rows that each answer a next state, run one after another. -/
theorem runs_map {α : Type} {c : α → Instr} {f : State → α → State} (h : ∀ x t, exec (c x) t = .next (f t x)) (l : List α)
    (is : List Instr) (s : State) : runs (l.map c ++ is) s = runs is (l.foldl f s) := by
  induction l generalizing s with
  | nil => rfl
  | cons x l ih =>
    rw [List.map_cons, List.cons_append, List.foldl_cons, ← ih]
    simp only [runs, h]

/-- The expiries of a tick are the rows of the expiries, in their order. -/
theorem runs_expiryRows (s : State) : runs expiryRows s = .next s.takeExpiries := by
  unfold expiryRows State.takeExpiries
  rw [List.append_assoc, List.append_assoc, List.append_assoc, runs_map (f := State.deadlineEnds) fun _ _ => rfl,
    runs_map (f := State.holdOffEnds) fun _ _ => rfl, runs_map (f := State.probeFallsDue) fun _ _ => rfl,
    runs_map (f := State.periodEnds) fun _ _ => rfl]
  have h := runs_map (c := .aggregatorTimerExpired) (f := State.aggregatorEnds) (fun _ _ => rfl) (List.finRange 4) []
  simp only [List.append_nil] at h
  rw [h]
  rfl

theorem foldl_same {α : Type} {f : State → α → State} {s : State} (h : ∀ x, f s x = s) (l : List α) : l.foldl f s = s := by
  induction l with
  | nil => rfl
  | cons x l ih => rw [List.foldl_cons, h, ih]

/-- Before its time no expiry changes anything. -/
theorem State.takeExpiries_same {s : State}
    (hd : ∀ i x t d, s.slot i = some x → x.txn = some t → t.deadline = some d → msReached s.ms d = false)
    (hn : ∀ n r d, s.node n = some r → (r.holdOffEnd = some d ∨ r.nextProbe = some d) → msReached s.ms d = false)
    (hp : ∀ p e d, s.poll p = some e → e.nextDue = some d → msReached s.ms d = false)
    (hc : ∀ c e, (s.cq c).timer = .running e → e < (s.cq c).delay) : s.takeExpiries = s := by
  have deadline (i : SlotId) : s.deadlineEnds i = s := by
    unfold State.deadlineEnds
    split
    · next d h =>
      refine if_neg fun hr => ?_
      have : ∃ x t, s.slot i = some x ∧ x.txn = some t ∧ t.deadline = some d := by
        unfold State.deadlineOf at h
        split at h
        · next hs => exact ⟨_, _, hs, rfl, h⟩
        · next hs => exact ⟨_, _, hs, rfl, h⟩
        · cases h
      obtain ⟨x, t, hx, ht, htd⟩ := this
      simp [hd i x t d hx ht htd] at hr
    · rfl
  have holdOff (n : NodeId) : s.holdOffEnds n = s := by
    unfold State.holdOffEnds
    split
    · next d h =>
      obtain ⟨r, hr, ho⟩ := Option.bind_eq_some_iff.mp h
      refine if_neg fun h => ?_
      simp [hn n r d hr (.inl ho)] at h
    · rfl
  have probe (n : NodeId) : s.probeFallsDue n = s := by
    unfold State.probeFallsDue
    split
    · next d h =>
      unfold State.probeTime at h
      split at h
      · next r hr =>
        split at h
        · refine if_neg fun h' => ?_
          simp [hn n r d hr (.inr h)] at h'
        · cases h
      · cases h
    · rfl
  have period (p : PollId) : s.periodEnds p = s := by
    unfold State.periodEnds
    split
    · next d h =>
      obtain ⟨e, he, hdue⟩ := Option.bind_eq_some_iff.mp h
      unfold Poll.dueTime at hdue
      split at hdue
      · refine if_neg fun h => ?_
        simp [hp p e d he hdue] at h
      · cases hdue
    · rfl
  have aggregator (c : CqId) : s.aggregatorEnds c = s := by
    unfold State.aggregatorEnds
    split
    · next e he => exact if_neg fun h => absurd h.2 (Nat.not_le.mpr (hc c e he))
    · rfl
  unfold State.takeExpiries
  dsimp only
  rw [foldl_same deadline, foldl_same holdOff, foldl_same probe, foldl_same period, foldl_same aggregator]

theorem Line.silent_iff (x : Line) : x.silent = true ↔ x.inChar = false ∧ x.space = false := by simp [Line.silent]

theorem Line.begins_eq (y : Line) :
    y.begins =
      if y.st = .guard ∧ y.attempt ≠ none ∧ y.waited = 0 ∧ y.quietOn = false ∧ y.inChar = false ∧ y.space = false ∧
          y.cfg.guardTime ≤ y.guardT then
        { y with st := .tx, driver := true, txPos := 0, inChar := true, charT := 0 }
      else y := by
  unfold Line.begins
  congr 1
  simp [Line.guardReached, Line.guardRuns, Line.silent_iff, and_assoc]

theorem Line.pass_one (x : Line) :
    x.pass 1 =
      let n := (x.bitPhase + 1) / x.cfg.divisor
      let still := x.inChar = false ∧ x.space = false
      if x.st = .off then x
      else
        { x with
          bitPhase := (x.bitPhase + 1) % x.cfg.divisor
          guardT := if still then x.guardT + n else x.guardT
          gapT := if still then x.gapT + n else x.gapT
          respT := if x.st = .wait then x.respT + n else x.respT
          breakT := if x.space = true then x.breakT + n else x.breakT
          markT := x.markT + n
          charT := if x.inChar = true then x.charT + n else x.charT
          quietT := if x.quietOn = true then x.quietT + n else x.quietT
          sinceSent := x.sinceSent + n, waited := x.waited + n } := by
  unfold Line.pass Line.passBits
  by_cases h : x.st = .off
  · simp only [if_pos h]
  · simp [h, Line.silent_iff]

/-- A unit of 100 microseconds has passed exactly at every 300th third. -/
theorem State.cq_pass_one (s : State) (c : CqId) :
    (s.pass 1).cq c = { s.cq c with
      timer := match (s.cq c).timer with
        | .running e =>
          if s.ctl ≠ .fatal ∧ (s.thirds + 1) % 300 = 0 then .running (min 255 (e + 1))
          else if s.ctl = .fatal then .running e else .running (min 255 e)
        | t => t } := by
  by_cases hf : s.ctl = .fatal
  · have h : (s.pass 1).cq c = s.cq c := by simp [State.pass, State.cq, hf]
    rw [h]
    cases ht : (s.cq c).timer <;> simp [hf] <;> rw [← ht]
  · have h : (s.pass 1).cq c = (s.cq c).pass (if (s.thirds + 1) % 300 = 0 then 1 else 0) := by
      have hk : (s.thirds + 1) / 300 - s.thirds / 300 = if (s.thirds + 1) % 300 = 0 then 1 else 0 := by
        split <;> omega
      rw [← hk]
      revert c
      simp [State.pass, State.cq, hf, Config.thirdsPer100us, Fin.forall_fin_succ]
    rw [h]
    unfold Cq.pass
    cases ht : (s.cq c).timer with
    | running e => by_cases h3 : (s.thirds + 1) % 300 = 0 <;> simp [hf, h3]
    | stopped | expired => simp [← ht]

/-- Settles O2: a tick is `stops`, `begins`, the passing of a third and the expiries, one after another. -/
theorem idleStepIsATick : Obligations.IdleStepIsATick := by
  intro s hp ht
  have hstep (t : State) (h : t.pending = []) : step t = .next t.tick := by unfold step; rw [h]
  refine ⟨fun hc hd => ?_, fun hns => ?_⟩
  · have hstop : s.stops = s.enterStopped := if_pos ⟨hc, hd⟩
    have hpe : s.enterStopped.pending = [] := by rw [s.enterStopped_frame]; exact hp
    have hag : s.enterStopped.stops = s.enterStopped := if_neg fun h => by simp [s.ctl_enterStopped] at h
    rw [hstep s hp, hstep _ hpe, State.tick, State.tick, hstop, hag]
  · have hstop : s.stops = s := if_neg fun h => hns.elim (fun hn => hn h.1) fun hn => by simp [hn] at h
    have hcqs (c : CqId) : (s.begins.pass 1).cq c = _ := s.begins.cq_pass_one c
    have htick : step s = .next (s.begins.pass 1).takeExpiries := by rw [hstep s hp, State.tick, hstop]
    refine ⟨s.begins.pass 1, rfl, rfl, ?_, fun l => ?_, hcqs, ?_, fun hd hn hq hc => ?_⟩
    · change s.ms + BitVec.ofNat 32 ((s.thirds + 1) / 3000) = s.ms + (if s.thirds = 2999 then 1 else 0)
      congr 1
      split
      · next h => rw [h]; rfl
      · next h => rw [show (s.thirds + 1) / 3000 = 0 by omega]; rfl
    · rw [State.line_pass, State.line_begins, Line.pass_one, Line.begins_eq]
    · rw [htick, runs_expiryRows]
    · rw [htick, State.takeExpiries_same hd hn hq hc]

end Sys2Proof.Machine

/-! The administrative commands on queues (section 9.3). -/

namespace Sys2Proof.Machine

/-- A command acts in the state in which its record is taken, and what comes about follows. -/
theorem State.next_take {s t : State} (h : s.Reading) {f : State → State} (e : f s.taken = t) :
    (Host.Outcome.next (s.take f) : Host.Outcome State Fault Refusal) = .next t.closing := by
  rw [State.take_eq h, e]

theorem not_sizeOk (n : Nat) : sizeOk n = false ↔ ¬(2 ≤ n ∧ n ≤ 4096) := by rw [sizeOk_false]
theorem not_aligned (k : Nat) (w : Word) : aligned k w = false ↔ w.toNat % k ≠ 0 := by rw [aligned_false]

theorem mk_eq_zero {n k : Nat} [NeZero n] (h : k < n) : (⟨k, h⟩ : Fin n) = 0 ↔ k = 0 := by
  rw [Fin.ext_iff]; rfl

/-- Settles O18: the checks of each command, one after another. -/
theorem cqCommands : Obligations.CqCommands := by
  intro s r hr s1 tag id irq thr delay no
  refine ⟨State.next_take hr ?_, State.next_take hr ?_, State.next_take hr ?_⟩ <;> by_cases h : id < 4
  · rw [dif_pos h, State.createCq, show asCq (parId r) = some ⟨id, h⟩ from asCq_of_lt h]
    refine if_congr ?_ rfl (if_congr .rfl rfl rfl)
    rw [mk_eq_zero, not_sizeOk, not_aligned]
    rfl
  · rw [dif_neg h, State.createCq, show asCq (parId r) = none from asCq_of_not h]
    rfl
  · rw [dif_pos h, State.tuneCq, show asCq (parId r) = some ⟨id, h⟩ from asCq_of_lt h]
    exact if_congr .rfl rfl (if_congr .rfl rfl (if_congr .rfl rfl rfl))
  · rw [dif_neg h, State.tuneCq, show asCq (parId r) = none from asCq_of_not h]
    rfl
  · rw [dif_pos h, State.setNoticeQueue, show asCq (parId r) = some ⟨id, h⟩ from asCq_of_lt h]
    exact if_congr .rfl rfl (if_congr .rfl rfl rfl)
  · rw [dif_neg h, State.setNoticeQueue, show asCq (parId r) = none from asCq_of_not h]
    rfl

theorem parClass_some {r : List Byte} (h : byteAt r 22 = 0x00#8 ∨ byteAt r 22 = 0x01#8) :
    parClass r = some (if byteAt r 22 = 0x00#8 then .normal else .urgent) := by
  unfold parClass
  rcases h with h | h <;> simp [h]

theorem parClass_none {r : List Byte} (h : ¬(byteAt r 22 = 0x00#8 ∨ byteAt r 22 = 0x01#8)) : parClass r = none := by
  unfold parClass
  rw [not_or] at h
  simp [h]

/-- Settles O19: three fields that name something, then the checks in their order. -/
theorem createSq : Obligations.CreateSq := by
  intro s r hr s1 tag id no
  refine State.next_take hr ?_
  unfold State.createSq
  by_cases h : (id < 8 ∧ (byteAt r 21).toNat < 4) ∧ (byteAt r 22 = 0x00#8 ∨ byteAt r 22 = 0x01#8)
  · rw [dif_pos h, show asSq (parId r) = some ⟨id, h.1.1⟩ from asSq_of_lt h.1.1,
      show asCq (parBoundCq r) = some ⟨_, h.1.2⟩ from asCq_of_lt h.1.2, parClass_some h.2]
    refine if_congr ?_ rfl (if_congr ?_ rfl (if_congr .rfl rfl (if_congr .rfl rfl ?_)))
    · rw [mk_eq_zero, not_sizeOk, not_aligned]
      have hq : parQuota r = 0 ∨ 32 < parQuota r ↔ ¬(1 ≤ parQuota r ∧ parQuota r ≤ 32) := by omega
      rw [hq]
      rfl
    · rw [State.taken_sq_st]
    · rfl
  · rw [dif_neg h]
    rw [not_and_or, not_and_or] at h
    split
    · next hq hc hcls =>
      rcases h with (h | h) | h
      · exact nomatch (asSq_of_not h).symm.trans hq
      · exact nomatch (asCq_of_not h).symm.trans hc
      · exact nomatch (parClass_none h).symm.trans hcls
    · rfl

/-! ### Deleting (R85, R129, R131, R158, R161) -/

theorem State.bound_iff (s : State) (c : CqId) : s.bound c = true ↔ ∃ q, (s.sq q).st ≠ .absent ∧ (s.sq q).cq = c := by
  simp [State.bound, mem_allSqs]

theorem State.cqAbsentDue_iff (s : State) (c : CqId) :
    s.cqAbsentDue c = true ↔ (s.cq c).st = .deleting ∧ s.writer.map (·.cq) ≠ some c := by
  cases h : s.writer <;> simp [State.cqAbsentDue, State.writingOn, h]

theorem State.occupied_eq_zero (s : State) (q : SqId) : s.occupied q = 0 ↔ ¬∃ i x, s.slot i = some x ∧ x.sq = q := by
  rw [State.occupied, List.length_eq_zero_iff, List.eq_nil_iff_forall_not_mem]
  simp only [State.mem_slotsOf, not_exists]

theorem State.sqAbsentDue_iff (s : State) (q : SqId) :
    s.sqAbsentDue q = true ↔ (s.sq q).st = .deleting ∧ ¬∃ i x, s.slot i = some x ∧ x.sq = q := by
  rw [← State.occupied_eq_zero]
  simp [State.sqAbsentDue]

/-- No slot of a queue is set free, or taken, by aborts. -/
theorem State.slotSq_foldl_abortSlot (l : List SlotId) (s : State) (i : SlotId) :
    ((l.foldl State.abortSlot s).slot i).map (·.sq) = (s.slot i).map (·.sq) :=
  List.foldlRecOn (motive := fun t : State => (t.slot i).map (·.sq) = (s.slot i).map (·.sq)) l _ rfl
    fun t ht j _ => (State.slotSq_abortSlot t j i).trans ht

/-- The queues that hold slots are the same after aborts. -/
theorem State.holds_foldl_abortSlot (l : List SlotId) (s : State) (q : SqId) :
    (∃ i x, (l.foldl State.abortSlot s).slot i = some x ∧ x.sq = q) ↔ ∃ i x, s.slot i = some x ∧ x.sq = q := by
  have h (t : State) (i : SlotId) : (∃ x, t.slot i = some x ∧ x.sq = q) ↔ (t.slot i).map (·.sq) = some q := by simp
  exact exists_congr fun i => by rw [h, h, State.slotSq_foldl_abortSlot]

theorem State.sqs_foldl_abortSlot (l : List SlotId) (s : State) : (l.foldl State.abortSlot s).sqs = s.sqs :=
  List.foldlRecOn (motive := fun t : State => t.sqs = s.sqs) l _ rfl fun t ht j _ => (State.sqs_abortSlot t j).trans ht

/-- A command whose object's condition may hold already. -/
theorem State.doneOrAwait_eq {s : State} {r : List Byte} {due : Bool} {close : State → State} {v : Nat} {x : Source} {P : Prop}
    [Decidable P] (h : due = true ↔ ¬P) :
    s.doneOrAwait r due close v x =
      if P then s.waits (u16At r 2) x else (close s).completes (u16At r 2) .ok v none := by
  unfold State.doneOrAwait
  by_cases hp : P
  · rw [if_pos hp, if_neg (by rw [h]; exact fun hn => hn hp)]
    rfl
  · rw [if_neg hp, if_pos (h.mpr hp)]
    rfl

/-- Settles O20: the checks in their order; the queue is DELETING, and closed at once where nothing holds it. -/
theorem deleteQueues : Obligations.DeleteQueues := by
  intro s r hr s1 tag id no
  refine ⟨State.next_take hr ?_, State.next_take hr ?_⟩
  · by_cases h : id < 4
    · rw [dif_pos h, State.deleteCq, show asCq (parId r) = some ⟨id, h⟩ from asCq_of_lt h]
      refine if_congr (mk_eq_zero h) rfl (if_congr .rfl rfl (if_congr .rfl rfl ?_))
      have hb : s1.bound ⟨id, h⟩ = true ↔ ∃ q, (s.sq q).st ≠ .absent ∧ (s.sq q).cq = ⟨id, h⟩ := by
        rw [State.bound_iff]
        exact exists_congr fun q => by rw [s.taken_sq_st, s.taken_sq_cq]
      by_cases hu : s1.bound ⟨id, h⟩ = true
      · rw [if_pos hu, if_pos (.inl (hb.mp hu))]
        rfl
      · by_cases hn : s.noticeCq = ⟨id, h⟩
        · rw [if_neg hu, if_pos (show s.taken.noticeCq = _ from hn), if_pos (.inr hn)]
          rfl
        · rw [if_neg hu, if_neg (show ¬s.taken.noticeCq = _ from hn), if_neg (not_or.mpr ⟨hu ∘ hb.mpr, hn⟩)]
          refine State.doneOrAwait_eq ?_
          rw [State.cqAbsentDue_iff, State.modCq, State.cq_setCq_self]
          simp only [true_and]
          rfl
    · rw [dif_neg h, State.deleteCq, show asCq (parId r) = none from asCq_of_not h]
      rfl
  · by_cases h : id < 8
    · rw [dif_pos h, State.deleteSq, show asSq (parId r) = some ⟨id, h⟩ from asSq_of_lt h]
      dsimp only
      by_cases h0 : id = 0
      · rw [if_pos ((mk_eq_zero h).mpr h0), if_pos h0]
        rfl
      · have hq : (⟨id, h⟩ : SqId) ≠ 0 := fun e => h0 ((mk_eq_zero h).mp e)
        rw [if_neg hq, if_neg h0, s.taken_sq hq]
        refine if_congr .rfl rfl (if_congr .rfl rfl ?_)
        have hs : s1.modSq ⟨id, h⟩ (fun d => { d with st := .deleting }) =
            s1.setSq ⟨id, h⟩ { s.sq ⟨id, h⟩ with st := .deleting } := by rw [State.modSq, s.taken_sq hq]
        refine (congrArg (fun t : State => (t.abortQueue ⟨id, h⟩).doneOrAwait r ((t.abortQueue ⟨id, h⟩).sqAbsentDue ⟨id, h⟩)
          (·.sqAbsent ⟨id, h⟩) id (.sq ⟨id, h⟩)) hs).trans (State.doneOrAwait_eq ?_)
        rw [State.sqAbsentDue_iff, State.abortQueue, State.sq, State.sqs_foldl_abortSlot]
        have hst : ((s1.setSq ⟨id, h⟩ { s.sq ⟨id, h⟩ with st := .deleting }).sqs[(⟨id, h⟩ : SqId)]).st = .deleting := by
          change ((s1.setSq ⟨id, h⟩ _).sq ⟨id, h⟩).st = _
          rw [State.sq_setSq_self]
        simp only [hst, true_and, State.holds_foldl_abortSlot]
        rfl
    · rw [dif_neg h, State.deleteSq, show asSq (parId r) = none from asSq_of_not h]
      rfl

end Sys2Proof.Machine

/-! The administrative commands on lines (section 9.4). -/

namespace Sys2Proof.Machine

/-! ### CONFIGURE LINE and START LINE (R17, R36, R118, R163, R164) -/

theorem LineCfg.inRange_iff {c : LineCfg} (hd : c.divisor < 65536) (hg : c.guardTime < 256) (hr : c.respLimit < 65536)
    (hq : c.quietTime < 65536) : c.inRange = true ↔
      1 ≤ c.divisor ∧ (c.stopBits = 1 ∨ c.stopBits = 2) ∧ 2 ≤ c.guardTime ∧ (1 ≤ c.gapLimit ∧ c.gapLimit ≤ 15) ∧
        100 ≤ c.respLimit ∧ c.retryLimit ≤ 7 ∧ (1 ≤ c.offThresh ∧ c.offThresh ≤ 15) ∧
        (10 ≤ c.probeIval ∧ c.probeIval ≤ 60000) ∧ (1 ≤ c.busyHold ∧ c.busyHold ≤ 2550) := by
  simp only [LineCfg.inRange, Bool.and_eq_true, decide_eq_true_eq]
  omega

theorem parCfg_inRange (r : List Byte) : (parCfg r).inRange = true ↔
    1 ≤ (parCfg r).divisor ∧ ((parCfg r).stopBits = 1 ∨ (parCfg r).stopBits = 2) ∧ 2 ≤ (parCfg r).guardTime ∧
      (1 ≤ (parCfg r).gapLimit ∧ (parCfg r).gapLimit ≤ 15) ∧ 100 ≤ (parCfg r).respLimit ∧ (parCfg r).retryLimit ≤ 7 ∧
      (1 ≤ (parCfg r).offThresh ∧ (parCfg r).offThresh ≤ 15) ∧
      (10 ≤ (parCfg r).probeIval ∧ (parCfg r).probeIval ≤ 60000) ∧
      (1 ≤ (parCfg r).busyHold ∧ (parCfg r).busyHold ≤ 2550) :=
  LineCfg.inRange_iff (u16At_lt r 20) (byteAt r 23).isLt (u16At_lt r 28) (u16At_lt r 34)

theorem Health.inService_iff (h : Health) : h.inService = true ↔ h = .unknown ∨ h = .online ∨ h = .suspect := by
  cases h <;> simp [Health.inService]

theorem State.mem_resumeLine {s : State} {l : LineId} {p : PollId} {e : Poll} (he : s.poll p = some e) :
    p ∈ (s.pollsOfLine l).filter (fun p => s.pollInService p) ↔ ∃ r, s.node e.node = some r ∧ r.line = l ∧
      (r.health = .unknown ∨ r.health = .online ∨ r.health = .suspect) := by
  rw [List.mem_filter, State.mem_pollsOfLine]
  unfold State.pollInService
  rw [he]
  cases hn : s.node e.node <;> simp [hn, Health.inService_iff]

/-- The entries that a starting line resumes (R118). -/
theorem State.resumeLine_spec (s : State) (l : LineId) : ∃ v, s.resumeLine l = v ∧ v = { s with polls := v.polls } ∧
    (∀ p, s.poll p = none → v.poll p = none) ∧
    ∀ p e, s.poll p = some e →
      let back := e.st = .suspended ∧ e.removal = false ∧ ∃ r, s.node e.node = some r ∧ r.line = l ∧
        (r.health = .unknown ∨ r.health = .online ∨ r.health = .suspect)
      (back → v.poll p = some { e with st := .active, nextDue := some s.ms, baseline := false }) ∧
      (¬back → v.poll p = some e) := by
  obtain ⟨hframe, hnone, hsome⟩ := s.foldl_resume_spec ((s.pollsOfLine l).filter fun p => s.pollInService p)
  refine ⟨_, rfl, hframe, hnone, fun p e he => ?_⟩
  have hb : (e.st = .suspended ∧ e.removal = false ∧ ∃ r, s.node e.node = some r ∧ r.line = l ∧
      (r.health = .unknown ∨ r.health = .online ∨ r.health = .suspect)) ↔
      (p ∈ (s.pollsOfLine l).filter fun p => s.pollInService p) ∧ e.st = .suspended ∧ e.removal = false := by
    rw [State.mem_resumeLine he]
    exact ⟨fun ⟨hs, hr, h⟩ => ⟨h, hs, hr⟩, fun ⟨h, hs, hr⟩ => ⟨hs, hr, h⟩⟩
  dsimp only
  rw [hb]
  exact hsome p e he

/-- Settles O21: what a starting line resumes; the checks of the two commands in their order. -/
theorem lineSettingCommands : Obligations.LineSettingCommands := by
  refine ⟨State.resumeLine_spec, ?_⟩
  intro s r hr s1 tag id no cfg good
  refine ⟨State.next_take hr ?_, State.next_take hr ?_⟩ <;> by_cases h : id < 4
  · rw [dif_pos h, State.configureLine, show asLine (recLine r) = some ⟨id, h⟩ from asLine_of_lt h]
    refine if_congr ?_ rfl (if_congr .rfl rfl rfl)
    rw [← Bool.not_eq_true, parCfg_inRange]
    rfl
  · rw [dif_neg h, State.configureLine, show asLine (recLine r) = none from asLine_of_not h]
    rfl
  · rw [dif_pos h, State.startLine, show asLine (recLine r) = some ⟨id, h⟩ from asLine_of_lt h]
    exact if_congr .rfl rfl rfl
  · rw [dif_neg h, State.startLine, show asLine (recLine r) = none from asLine_of_not h]
    rfl

end Sys2Proof.Machine

/-! STOP LINE in both forms (R37, R38, R88, R165, R166). -/

namespace Sys2Proof.Machine

/-! ### What the stop of a line leaves: fewer PENDING slots, shorter lists -/

/-- Every PENDING slot that is left was PENDING, the lists hold only what they held, and no record has another line. -/
structure State.Calmer (s t : State) : Prop where
  slots : ∀ i x, t.slot i = some x → x.st = .pending → s.slot i = some x
  lists : ∀ k, (t.sched k).lineList ⊆ (s.sched k).lineList
  nodes : ∀ n q, t.node n = some q → ∃ r, s.node n = some r ∧ q.line = r.line ∧ q.pendingList ⊆ r.pendingList

namespace State.Calmer

variable {s t u : State}

theorem refl (s : State) : s.Calmer s :=
  ⟨fun _ _ h _ => h, fun _ => List.Subset.refl _, fun _ q h => ⟨q, h, rfl, List.Subset.refl _⟩⟩

theorem trans (h : s.Calmer t) (g : t.Calmer u) : s.Calmer u where
  slots i x hx hp := h.slots i x (g.slots i x hx hp) hp
  lists k := List.Subset.trans (g.lists k) (h.lists k)
  nodes n q hq := by
    obtain ⟨r, hr, hl, hp⟩ := g.nodes n q hq
    obtain ⟨r', hr', hl', hp'⟩ := h.nodes n r hr
    exact ⟨r', hr', hl.trans hl', List.Subset.trans hp hp'⟩

theorem foldl {α : Type} {f : State → α → State} (hf : ∀ (t : State) x, t.Calmer (f t x)) (l : List α) (s : State) :
    s.Calmer (l.foldl f s) :=
  List.foldlRecOn (motive := fun u : State => s.Calmer u) l f (refl s) fun t ht x _ => ht.trans (hf t x)

/-- No slot that is not PENDING becomes so. -/
theorem isPending (h : s.Calmer t) {i : SlotId} (hi : s.isPending i = false) : t.isPending i = false := by
  unfold State.isPending at *
  split
  · next x hx =>
    by_contra hp
    have hx' := h.slots i x hx (by simpa using hp)
    simp [hx'] at hi
    simp [hi] at hp
  · rfl

theorem of_tables (hs : t.slots = s.slots) (hl : t.scheds = s.scheds) (hn : t.nodes = s.nodes) : s.Calmer t where
  slots i x hx _ := by simpa [State.slot, hs] using hx
  lists k := by simp [State.sched, hl]
  nodes n q hq := ⟨q, by simpa [State.node, hn] using hq, rfl, List.Subset.refl _⟩

/-- A change of other tables comes first. -/
theorem after (g : u.Calmer t) (hs : u.slots = s.slots) (hl : u.scheds = s.scheds) (hn : u.nodes = s.nodes) : s.Calmer t :=
  (of_tables hs hl hn).trans g

theorem modNode (s : State) (n : NodeId) {f : Node → Node}
    (hf : ∀ r, (f r).line = r.line ∧ (f r).pendingList ⊆ r.pendingList) : s.Calmer (s.modNode n f) where
  slots _ _ h _ := h
  lists _ := List.Subset.refl _
  nodes k q hq := by
    rw [State.modNode, State.node_setNode] at hq
    split at hq
    · next h =>
      subst h
      obtain ⟨r, hr, rfl⟩ := Option.map_eq_some_iff.mp hq
      exact ⟨r, hr, hf r⟩
    · exact ⟨q, hq, rfl, List.Subset.refl _⟩

theorem setNode_none (s : State) (n : NodeId) : s.Calmer (s.setNode n none) where
  slots _ _ h _ := h
  lists _ := List.Subset.refl _
  nodes k q hq := by
    rw [State.node_setNode] at hq
    split at hq
    · cases hq
    · exact ⟨q, hq, rfl, List.Subset.refl _⟩

theorem leaveList (s : State) (i : SlotId) (t : Txn) : s.Calmer (s.leaveList i t) := by
  have hsched : s.Calmer (s.modSched t.line fun c => { c with lineList := c.lineList.filter (· != i) }) :=
    { slots := fun _ _ h _ => h
      lists := fun k => by
        rw [State.modSched, State.sched_setSched]
        split
        · next h => exact h ▸ List.filter_subset_self _
        · exact List.Subset.refl _
      nodes := fun n q hq => ⟨q, hq, rfl, List.Subset.refl _⟩ }
  unfold State.leaveList
  split
  · split
    · exact modNode s _ fun r => ⟨rfl, List.filter_subset_self _⟩
    · exact refl s
  · exact hsched

theorem enterHeld (s : State) (i : SlotId) (r : Settled) : s.Calmer (s.enterHeld i r) := by
  unfold State.enterHeld
  split
  · exact refl s
  · next x hx =>
    refine ⟨fun j y hy hp => ?_, fun _ => List.Subset.refl _, fun n q hq => ⟨q, hq, rfl, List.Subset.refl _⟩⟩
    change (s.setSlot i _).slot j = some y at hy
    rw [State.slot_setSlot] at hy
    split at hy
    · cases hy; cases hp
    · exact hy

theorem complete (s : State) (i : SlotId) (st : Status) (code : Byte) (turn : Nat) (unk : Bool) :
    s.Calmer (s.complete i st code turn unk) := by
  unfold State.complete
  split
  · exact (leaveList s i _).trans (enterHeld _ i _)
  · exact refl s

theorem flushPending (s : State) (st : Status) (i : SlotId) : s.Calmer (s.flushPending st i) := by
  unfold State.flushPending
  split
  · exact complete s i _ _ _ _
  · exact refl s

theorem stopList (s : State) (l : List SlotId) : s.Calmer (s.stopList l) := foldl (fun t i => flushPending t _ i) l s

theorem stopNode (s : State) (l : LineId) (n : NodeId) : s.Calmer (s.stopNode l n) := by
  unfold State.stopNode
  split
  · split
    · exact stopList s _
    · exact refl s
  · exact refl s

theorem withdraw (s : State) (p : PollId) : s.Calmer (s.withdraw p) := by
  unfold State.withdraw
  split
  · exact refl s
  · next e _ =>
    split
    · refine after (u := s.setPoll p (some e.withdrawn)) ?_ rfl rfl rfl
      exact modNode _ _ fun r => ⟨rfl, List.Subset.refl _⟩
    · exact of_tables rfl rfl rfl

theorem suspend (s : State) (p : PollId) : s.Calmer (s.suspend p) := by
  unfold State.suspend
  split
  · exact refl s
  · split
    · exact (withdraw s p).trans (of_tables rfl rfl rfl)
    · exact refl s

theorem lineOff (s : State) (l : LineId) : s.Calmer (s.lineOff l) :=
  (of_tables rfl rfl rfl : s.Calmer (s.modLine l Line.stopped)).trans
    ((foldl suspend _ _).trans (of_tables rfl rfl rfl))

theorem closeRemovable (s : State) {x : Source} (h : x.removable = true) : s.Calmer (s.closeObj x) := by
  cases x with
  | node n =>
    change s.Calmer (if s.vacantDue n then s.nodeVacant n else s)
    split
    · exact (setNode_none s n).trans (of_tables rfl rfl rfl)
    · exact refl s
  | poll p =>
    change s.Calmer (if s.pollEmptyDue p then s.pollEmpty p else s)
    split
    · exact of_tables rfl rfl rfl
    · exact refl s
  | _ => cases h

theorem closeBefore (s : State) (l : LineId) : s.Calmer (s.closeBefore l) :=
  List.foldlRecOn (motive := fun u : State => s.Calmer u) _ _ (refl s) fun t ht _ hx => ht.trans (closeRemovable t (List.mem_filter.mp hx).2)

theorem cutShort (s : State) (a : Attempt) (sent : Bool) : s.Calmer (s.cutShort a sent) := by
  unfold State.cutShort
  split
  · split
    · exact complete s _ _ _ _ _
    · exact refl s
  · unfold State.probeReport
    split
    · exact refl s
    · next n _ r hr =>
      split
      · refine ⟨fun _ _ h _ => h, fun _ => List.Subset.refl _, fun k q hq => ?_⟩
        dsimp only at hq
        rw [State.node_setNode] at hq
        split at hq
        · next hk =>
          cases hq
          exact ⟨r, hk ▸ hr, rfl, List.Subset.refl _⟩
        · exact ⟨q, hq, rfl, List.Subset.refl _⟩
      · exact refl s
  · next p _ =>
    split
    · exact refl s
    · next e _ =>
      split
      · refine after (u := s.setPoll p (some (e.ended .lineStopped false))) ?_ rfl rfl rfl
        exact modNode _ _ fun r => ⟨rfl, List.Subset.refl _⟩
      · exact of_tables rfl rfl rfl

theorem cutAttempt (s : State) (l : LineId) : s.Calmer (s.cutAttempt l) := by
  unfold State.cutAttempt
  split
  · exact after (cutShort _ _ _) rfl rfl rfl
  · exact refl s

end State.Calmer

/-! ### The lists of a stopped line hold nothing PENDING -/

/-- Every PENDING slot has its transaction. -/
def State.Whole (s : State) : Prop := ∀ i x, s.slot i = some x → x.st = .pending → x.txn ≠ none

theorem State.Whole.of_calmer {s t : State} (h : s.Whole) (c : s.Calmer t) : t.Whole := fun i x hx hp =>
  h i x (c.slots i x hx hp) hp

theorem State.slot_complete_self {s : State} {i : SlotId} {x : Slot} {t : Txn} (hx : s.slot i = some x) (ht : x.txn = some t)
    (st : Status) (code : Byte) (turn : Nat) (unk : Bool) : ∃ r,
    (s.complete i st code turn unk).slot i = some { x with st := .held, settled := some r } := by
  obtain ⟨sst, q, cls, tag, txn, se⟩ := x
  cases ht
  have hl : (s.leaveList i t).slot i = some ⟨sst, q, cls, tag, some t, se⟩ := by
    rw [State.slot, State.slots_leaveList]; exact hx
  unfold State.complete
  rw [hx]
  dsimp only
  unfold State.enterHeld
  rw [hl]
  exact ⟨_, State.slot_setSlot_self _ _ _⟩

/-- A list that has been stopped holds nothing PENDING. -/
theorem State.isPending_stopList {s : State} (h : s.Whole) {l : List SlotId} {i : SlotId} (hi : i ∈ l) :
    (s.stopList l).isPending i = false := by
  induction l generalizing s with
  | nil => cases hi
  | cons j l ih =>
    have hc := Calmer.flushPending s .lineStopped j
    rcases List.mem_cons.mp hi with rfl | hi
    · refine (Calmer.stopList (s.flushPending .lineStopped i) l).isPending ?_
      unfold State.flushPending
      split
      · next hp =>
        unfold State.isPending at hp
        split at hp
        · next x hx =>
          cases ht : x.txn with
          | none => exact absurd ht (h i x hx (by simpa using hp))
          | some t =>
            obtain ⟨r, hr⟩ := State.slot_complete_self hx ht .lineStopped 0 0 false
            unfold State.isPending
            rw [hr]
            rfl
        · cases hp
      · next hp => exact Bool.not_eq_true _ ▸ hp
    · exact ih (h.of_calmer hc) hi

/-- The records of the line are stopped one after another. -/
theorem State.isPending_stopNodes {s : State} (h : s.Whole) {l : LineId} {js : List NodeId} {n : NodeId} (hn : n ∈ js)
    {nd : Node} (hd : (js.foldl (fun t n => t.stopNode l n) s).node n = some nd) (hl : nd.line = l) {i : SlotId}
    (hi : i ∈ nd.pendingList) : (js.foldl (fun t n => t.stopNode l n) s).isPending i = false := by
  induction js generalizing s with
  | nil => cases hn
  | cons j js ih =>
    have hc := Calmer.stopNode s l j
    by_cases hm : n ∈ js
    · exact ih (h.of_calmer hc) hm hd
    · obtain rfl : n = j := (List.mem_cons.mp hn).resolve_right hm
      have hrest := Calmer.foldl (f := fun t n => t.stopNode l n) (fun t n => Calmer.stopNode t l n) js (s.stopNode l n)
      refine hrest.isPending ?_
      obtain ⟨r1, hr1, hl1, hp1⟩ := hrest.nodes n nd hd
      obtain ⟨r, hr, hlr, hpr⟩ := hc.nodes n r1 hr1
      unfold State.stopNode
      rw [hr]
      dsimp only
      rw [if_pos (hlr ▸ hl1 ▸ hl)]
      exact State.isPending_stopList h (hpr (hp1 hi))

/-! ### The lines under a stop -/

theorem State.lines_stopNodes (s : State) (l : LineId) (js : List NodeId) :
    (js.foldl (fun t n => t.stopNode l n) s).lines = s.lines :=
  State.lines_foldl (fun t n => by
    unfold State.stopNode
    split
    · split
      · exact State.lines_foldl (fun u i => u.lines_flushPending _ i) _ t
      · rfl
    · rfl) js s

theorem State.lines_stopList (s : State) (l : List SlotId) : (s.stopList l).lines = s.lines :=
  State.lines_foldl (fun u i => u.lines_flushPending _ i) l s

theorem State.lines_closeBefore (s : State) (l : LineId) : (s.closeBefore l).lines = s.lines :=
  List.foldlRecOn (motive := fun u : State => u.lines = s.lines) _ _ rfl fun t ht x hx => by
    rw [← ht]
    have hr := (List.mem_filter.mp hx).2
    cases x with
    | node n =>
      change (if t.vacantDue n then t.nodeVacant n else t).lines = _
      split <;> rfl
    | poll p =>
      change (if t.pollEmptyDue p then t.pollEmpty p else t).lines = _
      split <;> rfl
    | _ => cases hr

theorem State.lines_cutShort (s : State) (a : Attempt) (sent : Bool) : (s.cutShort a sent).lines = s.lines := by
  unfold State.cutShort
  split
  · split
    · exact s.lines_complete _ _ _ _ _
    · rfl
  · exact s.lines_probeReport _ _
  · split
    · rfl
    · split <;> rfl

/-- The attempt apart, a stopped line's own record is as it was until the line is OFF. -/
theorem State.line_cutAttempt (s : State) (l k : LineId) :
    (s.cutAttempt l).line k = if l = k then { s.line k with attempt := none } else s.line k := by
  unfold State.cutAttempt
  split
  · rw [State.line, State.lines_cutShort]
    change (s.setLine l { s.line l with attempt := none }).line k = _
    rw [State.line_setLine]
    split
    · next h => rw [h]
    · rfl
  · next h =>
    split
    · next e => rw [← e, ← h]
    · rfl

/-- The state in which the lists of the line have been stopped. -/
def State.listsStopped (s : State) (l : LineId) : State :=
  allNodes.foldl (fun t n => t.stopNode l n) ((s.cutAttempt l).stopList ((s.cutAttempt l).sched l).lineList)

theorem State.abortLine_eq (s : State) (l : LineId) : s.abortLine l = ((s.listsStopped l).closeBefore l).lineOff l := rfl

theorem State.line_beforeOff (s : State) (l k : LineId) :
    ((s.listsStopped l).closeBefore l).line k = if l = k then { s.line k with attempt := none } else s.line k := by
  rw [State.line, State.lines_closeBefore, State.listsStopped, State.lines_stopNodes, State.lines_stopList]
  exact s.line_cutAttempt l k

theorem State.line_abortLine_self (s : State) (l : LineId) : (s.abortLine l).line l = (s.line l).stopped := by
  rw [State.abortLine_eq, State.line_lineOff, State.line_beforeOff, if_pos rfl]
  rfl

theorem State.line_abortLine_ne (s : State) {l k : LineId} (h : k ≠ l) : (s.abortLine l).line k = s.line k := by
  rw [State.abortLine_eq, State.lineOff, State.makeReady_line, State.line, State.lines_suspendLine]
  change (((s.listsStopped l).closeBefore l).setLine l _).line k = _
  rw [State.line_setLine_ne _ h.symm, State.line_beforeOff, if_neg h.symm]

theorem State.Calmer.listsToOff (s : State) (l : LineId) : (s.listsStopped l).Calmer (s.abortLine l) :=
  (Calmer.closeBefore _ l).trans (Calmer.lineOff _ l)

theorem State.isPending_lineList_abortLine {s : State} (h : s.Whole) {l : LineId} {i : SlotId}
    (hi : i ∈ ((s.abortLine l).sched l).lineList) : (s.abortLine l).isPending i = false := by
  have hcut := Calmer.cutAttempt s l
  have hrest : ((s.cutAttempt l).stopList ((s.cutAttempt l).sched l).lineList).Calmer (s.abortLine l) :=
    (Calmer.foldl (f := fun t n => t.stopNode l n) (fun t n => Calmer.stopNode t l n) allNodes _).trans
      (Calmer.listsToOff s l)
  refine hrest.isPending (State.isPending_stopList (h.of_calmer hcut) ?_)
  exact (Calmer.stopList _ _).lists l (hrest.lists l hi)

theorem State.isPending_pendingList_abortLine {s : State} (h : s.Whole) {l : LineId} {n : NodeId} {nd : Node}
    (hn : (s.abortLine l).node n = some nd) (hl : nd.line = l) {i : SlotId} (hi : i ∈ nd.pendingList) :
    (s.abortLine l).isPending i = false := by
  have hrest := Calmer.listsToOff s l
  obtain ⟨r, hr, hlr, hpr⟩ := hrest.nodes n nd hn
  exact hrest.isPending (State.isPending_stopNodes ((h.of_calmer (Calmer.cutAttempt s l)).of_calmer (Calmer.stopList _ _))
    (List.mem_finRange n) hr (hlr ▸ hl) (hpr hi))

/-! ### STOP LINE -/

/-- What a cut attempt's owner takes (R59, R88, R112). -/
theorem State.cutShort_spec (s : State) (a : Attempt) (sent : Bool) :
    (∀ i x, a.owner = .slot i → s.slot i = some x →
      (x.st = .active → x.settled = none → s.cutShort a sent = s.complete i .lineStopped 0 0 sent) ∧
      (x.st ≠ .active ∨ x.settled ≠ none → s.cutShort a sent = s)) ∧
    (∀ n r, a.owner = .probe n → s.node n = some r → r.health = .offline → r.removal = false →
      s.cutShort a sent = s.setNode n (some
        { r with nextProbe := some (s.ms + BitVec.ofNat 32 (s.line r.line).cfg.probeIval), probeDue := false
                 promoted := false })) ∧
    (∀ p e, a.owner = .poll p → s.poll p = some e →
      (e.inst ≠ none → s.cutShort a sent =
        (s.setPoll p (some
          { e with inst := none, running := false, lastResult := some .lineStopped, baseline := false })).setNode e.node
          ((s.node e.node).map fun r => { r with openX := if r.openX = some (.poll p) then none else r.openX })) ∧
      (e.inst = none → s.cutShort a sent = s.setPoll p (some { e with running := false }))) := by
  refine ⟨fun i x ho hx => ?_, fun n r ho hr hh hm => ?_, fun p e ho he => ?_⟩
  · have hrun : s.attemptRuns i = (x.st == .active && x.settled.isNone) := by simp [State.attemptRuns, hx]
    unfold State.cutShort
    rw [ho]
    refine ⟨fun ha hs => ?_, fun h => ?_⟩
    · simp [hrun, ha, hs]
    · have : (x.st == .active && x.settled.isNone) = false := by
        rcases h with h | h
        · simp [h]
        · simp [Option.isSome_iff_ne_none, h]
      simp [hrun, this]
  · unfold State.cutShort State.probeReport
    rw [ho]
    dsimp only
    rw [hr]
    dsimp only
    rw [if_pos ⟨hh, hm⟩]
    rfl
  · unfold State.cutShort
    rw [ho]
    dsimp only
    rw [he]
    dsimp only
    refine ⟨fun hi => ?_, fun hi => ?_⟩
    · rw [if_pos (Option.isSome_iff_ne_none.mpr hi)]
      rfl
    · rw [hi]
      rfl

theorem Line.requestSent_eq (x : Line) : x.requestSent = decide (x.st = .tx ∨ x.st = .wait ∨ x.st = .rx) := by
  unfold Line.requestSent
  cases x.st <;> simp

/-- Settles O22: the suspending of the line's entries; the abort of a line in its order; the report to the owner; the two
forms with their checks; nothing PENDING is left on the lists. -/
theorem stopLine : Obligations.StopLine := by
  refine ⟨fun s l => ⟨_, rfl, s.suspendLine_spec l⟩, fun s l => ?_, State.cutShort_spec, fun s r hr => ?_⟩
  · intro cut low pend sent freed s1 s2 s3 s4
    have h1 : s.cutAttempt l = s1 := by
      unfold State.cutAttempt
      rw [Line.requestSent_eq]
      rfl
    rw [State.abortLine_eq, State.listsStopped, h1]
    rfl
  · intro s1 tag id no
    refine ⟨State.next_take hr ?_, State.next_take hr ?_, fun l h => ⟨?_, ?_, ?_, ?_⟩⟩
    · by_cases h : id < 4
      · rw [dif_pos h, State.stopDraining, show asLine (recLine r) = some ⟨id, h⟩ from asLine_of_lt h]
        refine if_congr .rfl rfl (if_congr .rfl rfl (if_congr .rfl rfl ?_))
        rw [State.doneOrAwait_eq (P := ¬((s1.modLine ⟨id, h⟩ fun x => { x with stopRequested := true }).lineOffDue ⟨id, h⟩ =
          true)) not_not.symm, ite_not]
        refine if_congr ?_ rfl rfl
        rw [State.lineOffDue_iff, State.modLine, State.line_setLine_self]
        simp only [true_and]
        exact ⟨fun ⟨ha, hst, hl, hn⟩ => ⟨ha, hl, hn, hst⟩, fun ⟨ha, hl, hn, hst⟩ => ⟨ha, hst, hl, hn⟩⟩
      · rw [dif_neg h, State.stopDraining, show asLine (recLine r) = none from asLine_of_not h]
        rfl
    · by_cases h : id < 4
      · rw [dif_pos h, State.stopAborting, show asLine (recLine r) = some ⟨id, h⟩ from asLine_of_lt h]
        exact if_congr .rfl rfl (State.done_eq _ _ _)
      · rw [dif_neg h, State.stopAborting, show asLine (recLine r) = none from asLine_of_not h]
        rfl
    · exact s1.line_abortLine_self l
    · exact fun k hk => s1.line_abortLine_ne hk
    · exact fun i hi => State.isPending_lineList_abortLine (s := s1) h hi
    · exact fun n nd hn hl i hi => State.isPending_pendingList_abortLine (s := s1) h hn hl hi

end Sys2Proof.Machine

/-! The administrative commands SET NODE and REMOVE NODE, and what a record that is disabled loses (section 9.5). -/

namespace Sys2Proof.Machine

/-! ### SET NODE (R41 to R46, R54, R118, R167) -/

/-- The entries that a node returned to service resumes (R118). -/
theorem State.resumeNode_spec {s : State} {n : NodeId} {nd : Node} (hn : s.node n = some nd) :
    ∃ v, s.resumeNode n = v ∧ v = { s with polls := v.polls } ∧ (∀ p, s.poll p = none → v.poll p = none) ∧
    ∀ p e, s.poll p = some e →
      let back := (s.line nd.line).st ≠ .off ∧ e.node = n ∧ e.st = .suspended ∧ e.removal = false
      (back → v.poll p = some { e with st := .active, nextDue := some s.ms, baseline := false }) ∧
      (¬back → v.poll p = some e) := by
  refine ⟨_, rfl, ?_⟩
  unfold State.resumeNode
  rw [hn]
  dsimp only
  split
  · next hoff => exact ⟨rfl, fun p hp => hp, fun p e he => ⟨fun hb => absurd hoff hb.1, fun _ => he⟩⟩
  · next hon =>
    obtain ⟨hframe, hnone, hsome⟩ := s.foldl_resume_spec (s.pollsOfNode n)
    refine ⟨hframe, hnone, fun p e he => ?_⟩
    have hb : ((s.line nd.line).st ≠ .off ∧ e.node = n ∧ e.st = .suspended ∧ e.removal = false) ↔
        p ∈ s.pollsOfNode n ∧ e.st = .suspended ∧ e.removal = false := by
      rw [State.mem_pollsOfNode, he]
      simp [hon]
    rw [hb]
    exact hsome p e he

theorem State.node_resumeNode (s : State) (n k : NodeId) : (s.resumeNode n).node k = s.node k := by
  unfold State.resumeNode
  split
  · rfl
  · split
    · rfl
    · rw [(State.foldl_resume _ s).1]
      rfl

theorem unicast_false (a : Byte) : unicast a = false ↔ a = 0x00#8 ∨ a = 0xFF#8 := by
  unfold unicast
  rw [Bool.and_eq_false_iff, bne_eq_false_iff_eq, bne_eq_false_iff_eq]

theorem retryFieldOk_false (n : Nat) : retryFieldOk n = false ↔ ¬(n ≤ 7 ∨ n = 15) := by simp [retryFieldOk]

theorem nodeFieldsBad_iff {r : List Byte} (h : (byteAt r 4).toNat < 4) : nodeFieldsBad r = true ↔
    byteAt r 5 = 0x00#8 ∨ byteAt r 5 = 0xFF#8 ∨ (1 ≤ u16At r 20 ∧ u16At r 20 ≤ 99) ∨
      ¬((byteAt r 22).toNat ≤ 7 ∨ (byteAt r 22).toNat = 15) ∨ 15 < (byteAt r 23).toNat := by
  have h3 : ¬3 < recLine r := by unfold recLine; omega
  simp only [nodeFieldsBad, Bool.or_eq_true, Bool.not_eq_true', unicast_false, retryFieldOk_false, decide_eq_true_eq, h3,
    false_or, or_assoc]
  rfl

/-- The enable request brings a DISABLED record back (R54). -/
theorem State.enableNode_some {s : State} {n : NodeId} {nd : Node} (h : s.node n = some nd) :
    s.enableNode n = (s.setNode n (some { nd with health := .unknown, seq := false, failures := 0 })).resumeNode n := by
  rw [State.enableNode, State.modNode_some _ h]

/-- SET NODE on a record that is present. -/
theorem State.setNode_present {s : State} {n : NodeId} {nd : Node} (hn : s.node n = some nd) (r : List Byte) (d : Bool) :
    ((s.modNode n (·.settings r)).requestNode n d).doneNode r n =
      let s2 := s.setNode n (some (nd.settings r))
      if d = true ∧ nd.health ≠ .disabled then
        (s2.disableNode n).completes (u16At r 2) .ok n.val (((s2.disableNode n).node n).map (·.health))
      else if d = false ∧ nd.health = .disabled then
        ((s2.setNode n (some { nd.settings r with health := .unknown, seq := false, failures := 0 })).resumeNode n).completes
          (u16At r 2) .ok n.val (some .unknown)
      else s2.completes (u16At r 2) .ok n.val (some nd.health) := by
  rw [State.modNode_some _ hn]
  have h2 : (s.setNode n (some (nd.settings r))).node n = some (nd.settings r) := State.node_setNode_self _ _ _
  have hh : (nd.settings r).health = nd.health := rfl
  unfold State.requestNode State.doneNode
  rw [h2]
  dsimp only
  rw [hh, State.finish_eq]
  cases d with
  | true =>
    by_cases hd : nd.health = .disabled
    · simp only [hd, if_true, ne_eq, not_true, and_false, if_false, h2]
      simp [hh, hd]
    · simp [hd]
  | false =>
    by_cases hd : nd.health = .disabled
    · simp [hd, State.enableNode_some h2, State.node_resumeNode]
    · simp [hd, h2, hh]

/-- Settles O23: what the enable request resumes; the checks in their order; creation, update and the two requests. -/
theorem setNode : Obligations.SetNode := by
  refine ⟨fun s n nd hn => State.resumeNode_spec hn, fun s r hr => ?_⟩
  intro s1 tag no disable resp retry thresh
  refine State.next_take hr ?_
  unfold State.setNodeCmd
  by_cases h : (byteAt r 4).toNat < 4
  · rw [dif_pos h, show asLine (recLine r) = some ⟨_, h⟩ from asLine_of_lt h]
    cases hb : nodeFieldsBad r with
    | true =>
      rw [if_pos ((nodeFieldsBad_iff h).mp hb)]
      rfl
    | false =>
      rw [if_neg (fun hbad => Bool.false_ne_true (hb.symm.trans ((nodeFieldsBad_iff h).mpr hbad)))]
      dsimp only
      rw [State.taken_findNode]
      change (match s.findNode ⟨_, h⟩ (byteAt r 5) with | some n => _ | none => _) = _
      cases hf : s.findNode ⟨_, h⟩ (byteAt r 5) with
      | some n =>
        obtain ⟨nd, hn, -⟩ := State.findNode_some hf
        dsimp only
        rw [State.taken_node, hn, State.setNode_present (s := s.taken) hn]
        exact if_congr .rfl rfl rfl
      | none =>
        change (match allNodes.find? (fun n => (s.node n).isNone) with | some n => _ | none => _) = _
        cases allNodes.find? (fun n => (s.node n).isNone) with
        | none => rfl
        | some n =>
          dsimp only
          rw [State.doneNode, State.finish_eq, State.node_setNode_self]
          rfl
  · rw [dif_neg h, show asLine (recLine r) = none from asLine_of_not h]
    cases nodeFieldsBad r <;> rfl

/-! ### REMOVE NODE (R47, R168) -/

/-- Settles O25: the checks in their order; the mark and the aborts; the record is VACANT where nothing is left. -/
theorem removeNode : Obligations.RemoveNode := by
  intro s r hr s1 tag no
  refine State.next_take hr ?_
  unfold State.removeNodeCmd
  by_cases h : (byteAt r 4).toNat < 4
  · rw [dif_pos h, show asLine (recLine r) = some ⟨_, h⟩ from asLine_of_lt h]
    cases hu : unicast (recAddress r) with
    | false =>
      have hu' : byteAt r 5 = 0x00#8 ∨ byteAt r 5 = 0xFF#8 := (unicast_false _).mp hu
      dsimp only
      rw [if_pos hu']
      rfl
    | true =>
      have hu' : ¬(byteAt r 5 = 0x00#8 ∨ byteAt r 5 = 0xFF#8) := fun hbad =>
        Bool.false_ne_true (((unicast_false _).mpr hbad).symm.trans hu)
      dsimp only
      rw [if_neg hu']
      rw [State.taken_findNode]
      change (match s.findNode ⟨_, h⟩ (byteAt r 5) with | none => _ | some n => _) = _
      cases hf : s.findNode ⟨_, h⟩ (byteAt r 5) with
      | none => rfl
      | some n =>
        obtain ⟨nd, hn, -⟩ := State.findNode_some hf
        have hm : s.taken.removeMark n =
            nd.pendingList.foldl State.abortSlot (s1.setNode n (some { nd with removal := true })) := by
          unfold State.removeMark
          rw [State.taken_node, hn]
        have hp : (s.taken.pollsOfNode n).isEmpty = false ↔ ∃ p e, s.poll p = some e ∧ e.node = n := by
          rw [List.isEmpty_eq_false_iff_exists_mem]
          exact exists_congr fun p => State.mem_pollsOfNode (s := s.taken)
        dsimp only
        rw [State.taken_node, hn, hm]
        exact if_congr .rfl rfl (if_congr hp rfl rfl)
  · rw [dif_neg h, show asLine (recLine r) = none from asLine_of_not h]
    cases unicast (recAddress r) <;> rfl

end Sys2Proof.Machine

/-! What a record that enters DISABLED keeps and loses (R53, R87). -/

namespace Sys2Proof.Machine

/-- What disabling leaves of a slot on the record's list (R87). -/
def Slot.disabled (x : Slot) : Slot :=
  if x.st = .pending then { x with st := .held, settled := some (Settled.plain .nodeDisabled 0 0 (some .disabled) false) }
  else { x with txn := x.txn.map fun t => { t with detached := true } }

/-- A slot on a record's list: its transaction has the record's key, and it is PENDING or its attempt runs. -/
def Node.Owns (nd : Node) (x : Slot) : Prop :=
  ∃ t, x.txn = some t ∧ t.kind = .exchange ∧ t.line = nd.line ∧ t.address = nd.address ∧
    (x.st = .pending ∨ (x.st = .active ∧ x.settled = none))

/-- The slots of a list that are PENDING with a queue bound to the CQ. -/
def State.pendingOn (s : State) (c : CqId) (l : List SlotId) : List SlotId :=
  l.filter fun i =>
    match s.slot i with
    | some x => x.st == .pending && (s.sq x.sq).cq == c
    | none => false

theorem Node.openX_dropSlot (r : Node) (i : SlotId) :
    (r.dropSlot i).openX = if r.openX = some (.slot i) then none else r.openX := rfl

/-! ### One slot -/

section
variable {t : State} {n : NodeId} {r : Node} {i : SlotId} {x : Slot}

/-- A PENDING slot is HELD with the state DISABLED, its record without it. -/
theorem State.disableSlot_pending {y : Txn} (hn : t.node n = some r) (hh : r.health = .disabled)
    (hf : t.findNode r.line r.address = some n) (hx : t.slot i = some x) (hy : x.txn = some y) (hk : y.kind = .exchange)
    (hl : y.line = r.line) (ha : y.address = r.address) (hp : x.st = .pending) :
    t.disableSlot n i = ((t.setNode n (some (r.dropSlot i))).setSlot i (some x.disabled)).modCq (t.sq x.sq).cq
      fun c => { c with held := c.held ++ [HeldRef.slot i] } := by
  have hpend : t.isPending i = true := by simp [State.isPending, hx, hp]
  have hfind := (State.findNode_setNode (q := r.dropSlot i) hn rfl rfl r.line r.address).trans hf
  have hleave : t.leaveList i y = t.setNode n (some (r.dropSlot i)) := by
    unfold State.leaveList
    rw [hk, hl, ha]
    dsimp only
    rw [hf]
    exact State.modNode_some _ hn
  have hhealth : (t.setNode n (some (r.dropSlot i))).healthOfTxn y = some .disabled := by
    unfold State.healthOfTxn State.nodeOfTxn
    rw [hk]
    dsimp only
    rw [hl, ha, hfind]
    dsimp only
    rw [State.node_setNode_self]
    exact congrArg some hh
  have hxd : x.disabled = { x with
      st := .held, settled := some (Settled.plain .nodeDisabled 0 0 (some .disabled) false) } := if_pos hp
  have hcomplete : t.complete i .nodeDisabled 0 0 false = (t.leaveList i y).enterHeld i
      (Settled.plain .nodeDisabled 0 0 ((t.leaveList i y).healthOfTxn y) false) := by
    unfold State.complete
    rw [hx]
    obtain ⟨st, q, cls, tag, txn, se⟩ := x
    cases hy
    rfl
  rw [State.disableSlot, if_pos hpend, hcomplete, hleave, hhealth, hxd]
  exact State.enterHeld_some (s := t.setNode n (some (r.dropSlot i))) hx _

/-- A slot with an attempt running is detached, its record without it. -/
theorem State.disableSlot_active (hn : t.node n = some r) (hx : t.slot i = some x) (hp : x.st = .active)
    (hs : x.settled = none) :
    t.disableSlot n i = (t.setSlot i (some x.disabled)).setNode n (some (r.dropSlot i)) := by
  have hpend : ¬t.isPending i = true := by simp [State.isPending, hx, hp]
  have hrun : t.attemptRuns i = true := by simp [State.attemptRuns, hx, hp, hs]
  have hm : t.modTxn i (fun y => { y with detached := true }) = t.setSlot i (some x.disabled) := by
    have hxd : x.disabled = { x with txn := x.txn.map fun y => { y with detached := true } } :=
      if_neg (by rw [hp]; exact nofun)
    rw [State.modTxn, State.modSlot, hx, hxd]
    rfl
  rw [State.disableSlot, if_neg hpend, if_pos hrun, hm]
  exact State.modNode_some (s := t.setSlot i (some x.disabled)) _ hn

/-- What the disabling of one slot of the record's list does. -/
theorem State.disableSlot_spec (hn : t.node n = some r) (hh : r.health = .disabled)
    (hf : t.findNode r.line r.address = some n) (hx : t.slot i = some x) (ho : r.Owns x) :
    let u := t.disableSlot n i
    u = { t with nodes := u.nodes, slots := u.slots, cqs := u.cqs } ∧
      u.node n = some (r.dropSlot i) ∧ u.findNode r.line r.address = some n ∧
      (∀ j, u.slot j = if i = j then some x.disabled else t.slot j) ∧
      ∀ c, u.cq c = { t.cq c with held := (t.cq c).held ++ (t.pendingOn c [i]).map HeldRef.slot } := by
  obtain ⟨y, hy, hk, hl, ha, hst⟩ := ho
  have hfind := (State.findNode_setNode (q := r.dropSlot i) hn rfl rfl r.line r.address).trans hf
  rcases hst with hp | ⟨hp, hs⟩
  · rw [State.disableSlot_pending hn hh hf hx hy hk hl ha hp]
    refine ⟨rfl, State.node_setNode_self _ _ _, hfind, fun j => State.slot_setSlot (t.setNode n _) i j _, fun c => ?_⟩
    rw [State.modCq, State.cq_setCq]
    have hon : t.pendingOn c [i] = if (t.sq x.sq).cq = c then [i] else [] := by
      simp [State.pendingOn, List.filter_cons, hx, hp]
    rw [hon]
    split
    · next h => subst h; rfl
    · simp
  · rw [State.disableSlot_active hn hx hp hs]
    refine ⟨rfl, State.node_setNode_self _ _ _, hfind, fun j => State.slot_setSlot t i j _, fun c => ?_⟩
    have hon : t.pendingOn c [i] = [] := by simp [State.pendingOn, hx, hp]
    rw [hon]
    simp

end

/-! ### The list -/

theorem Node.Owns.of_key {r q : Node} {x : Slot} (h : r.Owns x) (hl : q.line = r.line) (ha : q.address = r.address) :
    q.Owns x := by
  obtain ⟨t, ht, hk, htl, hta, hst⟩ := h
  exact ⟨t, ht, hk, htl.trans hl.symm, hta.trans ha.symm, hst⟩

/-- What the disabling of a list of slots does: each of them once, in list order. -/
theorem State.foldl_disableSlot {n : NodeId} {l : List SlotId} (hl : l.Nodup) {t : State} {r : Node}
    (hn : t.node n = some r) (hh : r.health = .disabled) (hf : t.findNode r.line r.address = some n)
    (ho : ∀ i ∈ l, ∃ x, t.slot i = some x ∧ r.Owns x) :
    let u := l.foldl (fun t i => t.disableSlot n i) t
    u = { t with nodes := u.nodes, slots := u.slots, cqs := u.cqs } ∧
      u.node n = some (l.foldl Node.dropSlot r) ∧
      (∀ j, u.slot j = if j ∈ l then (t.slot j).map Slot.disabled else t.slot j) ∧
      ∀ c, u.cq c = { t.cq c with held := (t.cq c).held ++ (t.pendingOn c l).map HeldRef.slot } := by
  induction l generalizing t r with
  | nil => exact ⟨rfl, hn, fun j => by simp, fun c => by simp [State.pendingOn]⟩
  | cons i l ih =>
    obtain ⟨hi, hl⟩ := List.nodup_cons.mp hl
    obtain ⟨x, hx, hown⟩ := ho i List.mem_cons_self
    obtain ⟨hframe, hnode, hfind, hslot, hcq⟩ := State.disableSlot_spec hn hh hf hx hown
    have hne {j : SlotId} (hj : j ∈ l) : i ≠ j := fun h => hi (h ▸ hj)
    have hrest (j : SlotId) (hj : j ∈ l) : (t.disableSlot n i).slot j = t.slot j := by
      rw [hslot, if_neg (hne hj)]
    have ho' (j : SlotId) (hj : j ∈ l) : ∃ y, (t.disableSlot n i).slot j = some y ∧ (r.dropSlot i).Owns y := by
      obtain ⟨y, hy, hyo⟩ := ho j (List.mem_cons_of_mem i hj)
      exact ⟨y, (hrest j hj).trans hy, hyo.of_key rfl rfl⟩
    obtain ⟨hframe', hnode', hslot', hcq'⟩ := ih hl hnode hh hfind ho'
    rw [List.foldl_cons]
    refine ⟨?_, hnode', fun j => ?_, fun c => ?_⟩
    · rw [hframe', hframe]
    · rw [hslot', hslot]
      by_cases e : i = j
      · subst e; simp [hi, hx]
      · simp [e, Ne.symm e]
    · have hsq : ∀ q, (t.disableSlot n i).sq q = t.sq q := fun q => by rw [hframe]; rfl
      have hon : (t.disableSlot n i).pendingOn c l = t.pendingOn c l :=
        List.filter_congr fun j hj => by rw [hrest j hj]; simp only [hsq]
      have hcons : t.pendingOn c (i :: l) = t.pendingOn c [i] ++ t.pendingOn c l :=
        List.filter_append (l₁ := [i]) (l₂ := l)
      rw [hcq', hcq, hon, hcons, List.map_append, ← List.append_assoc]

/-- A record without the slots of its list. -/
theorem Node.foldl_dropSlot (l : List SlotId) (r : Node) : l.foldl Node.dropSlot r =
    { r with
      pendingList := r.pendingList.filter (· ∉ l)
      openX := (l.foldl Node.dropSlot r).openX } := by
  induction l generalizing r with
  | nil => simp
  | cons i l ih =>
    rw [List.foldl_cons, ih]
    have h : (r.dropSlot i).pendingList.filter (· ∉ l) = r.pendingList.filter (· ∉ i :: l) := by
      change (r.pendingList.filter (· != i)).filter _ = _
      rw [List.filter_filter]
      exact List.filter_congr fun j _ => by rw [Bool.eq_iff_iff]; simp [and_comm]
    rw [h]
    rfl

/-! ### Suspending a node's entries (R117) -/

/-- A record with no open exchange is as it was, and no entry of the node is ACTIVE that is not on its way out. -/
theorem State.suspendNode_spec {s : State} {n : NodeId} {r : Node} (hn : s.node n = some r) (ho : r.openX = none) :
    s.suspendNode n = { s with nodes := (s.suspendNode n).nodes, polls := (s.suspendNode n).polls } ∧
      (s.suspendNode n).node n = some r ∧
      ∀ p e, (s.suspendNode n).poll p = some e → e.node = n → e.removal = false → e.st ≠ .active := by
  have hspec := State.foldl_withdrawAs Poll.suspends (fun x => { x with st := .suspended })
    (l := s.pollsOfNode n) (nodup_allPolls.filter _) s
  dsimp only at hspec
  rw [← State.foldl_suspend] at hspec
  obtain ⟨hframe, hpoll, -, hsome⟩ := hspec
  refine ⟨hframe, (hsome n r hn).2 fun ⟨p, _, _, _, _, _, _, h⟩ => ?_, fun p e he hen hrm => ?_⟩
  · rw [ho] at h
    cases h
  · have hp := (hpoll p).symm.trans he
    split at hp
    · obtain ⟨d, hd, rfl⟩ := Option.map_eq_some_iff.mp hp
      unfold Poll.withdrawnAs at *
      split
      · exact nofun
      · next hs =>
        rw [if_neg hs] at hrm
        exact fun ha => hs (by simp [Poll.suspends, ha, hrm])
    · next hm => exact absurd (State.mem_pollsOfNode.mpr ⟨e, hp, hen⟩) hm

/-- With unique keys a record is found under its key. -/
theorem State.KeysUnique.findNode {s : State} (h : s.KeysUnique) {n : NodeId} {r : Node} (hn : s.node n = some r) :
    s.findNode r.line r.address = some n := by
  cases hf : s.findNode r.line r.address with
  | none => exact absurd ⟨rfl, rfl⟩ (State.findNode_none hf n r hn)
  | some m =>
    obtain ⟨q, hq, hl, ha⟩ := State.findNode_some hf
    rw [h m n q r hq hn hl ha]

/-- Settles O24: each slot of the list once, then the record is released and its entries are suspended. -/
theorem disabledNode : Obligations.DisabledNode := by
  intro s n nd hkeys hn hnodup hown
  let r : Node := { nd with health := .disabled }
  have hr : (s.setNode n (some r)).node n = some r := State.node_setNode_self _ _ _
  obtain ⟨hframe, hnode, hslot, hcq⟩ := State.foldl_disableSlot (n := n) hnodup (t := s.setNode n (some r)) (r := r) hr rfl
    ((State.findNode_setNode (q := r) hn rfl rfl nd.line nd.address).trans (hkeys.findNode hn))
    (fun i hi => by
      obtain ⟨x, t, hx, ht, hk, hl, ha, hst⟩ := hown i hi
      exact ⟨x, hx, t, ht, hk, hl, ha, hst⟩)
  have hd : s.disableNode n = ((nd.pendingList.foldl (fun t i => t.disableSlot n i) (s.setNode n (some r))).modNode n
      Node.released).suspendNode n := by
    unfold State.disableNode
    rw [hn]
  revert hframe hnode hslot hcq hd
  generalize nd.pendingList.foldl (fun t i => t.disableSlot n i) (s.setNode n (some r)) = u
  intro hframe hnode hslot hcq hd
  rw [Node.foldl_dropSlot] at hnode
  have hnil : r.pendingList.filter (· ∉ nd.pendingList) = [] := by
    rw [List.filter_eq_nil_iff]
    intro i hi
    simpa using hi
  rw [hnil] at hnode
  rw [State.modNode_some _ hnode] at hd
  obtain ⟨hframe', hnode', hpoll'⟩ := State.suspendNode_spec
    (State.node_setNode_self u n (some (Node.released { r with pendingList := [], openX := (nd.pendingList.foldl Node.dropSlot r).openX }))) rfl
  rw [← hd] at hframe' hnode' hpoll'
  have hslots (j : SlotId) : (s.disableNode n).slot j = if j ∈ nd.pendingList then (s.slot j).map Slot.disabled else s.slot j := by
    rw [hframe']
    exact hslot j
  refine ⟨_, hnode', rfl, rfl, rfl, rfl, rfl, rfl, rfl, rfl, rfl, rfl, rfl, rfl, ⟨_, rfl, ?_, ?_, ?_, fun c => ?_⟩, hpoll'⟩
  · rw [hframe', hframe]
    rfl
  · intro i x t hi hx ht
    rw [hslots, if_pos hi, hx]
    refine ⟨fun hp => congrArg some (if_pos hp), fun hp => congrArg some ?_⟩
    rw [Slot.disabled, if_neg (by rw [hp]; exact nofun), ht]
    rfl
  · intro i hi
    rw [hslots, if_neg hi]
  · rw [hframe']
    exact hcq c

end Sys2Proof.Machine

/-! Administrative records sorted to their commands; READ NODE, the poll commands, ABORT and the end of commands (sections
9.2, 9.5 to 9.7, 11.3). -/

namespace Sys2Proof.Machine

/-! ### The sorting of administrative records (R155, R187) -/

theorem recordOf_of {op : Byte} {r : List Byte} (hl : r.length = 64) (h : (recOpcode r).toNat = op.toNat) :
    recordOf op r = true := by
  simp [recordOf, hl, Config.recordBytes, BitVec.eq_of_toNat_eq h]

/-- Every record of 64 bytes is sorted to a well-formed command that carries it. -/
theorem decodeAdmin_wellFormed {r : List Byte} (hl : r.length = 64) :
    (decodeAdmin r).wellFormed = true ∧ (decodeAdmin r).adminRecord = some r := by
  unfold decodeAdmin
  split
  case h_8 ho =>
    split
    · next hf => exact ⟨by simp [Instr.wellFormed, recordOf_of (op := 0x87#8) hl ho, hf], rfl⟩
    · next hf => exact ⟨by simp [Instr.wellFormed, recordOf_of (op := 0x87#8) hl ho, hf], rfl⟩
  case h_15 ho =>
    split
    · next hf => exact ⟨by simp [Instr.wellFormed, recordOf_of (op := 0x8E#8) hl ho, hf], rfl⟩
    · split
      · next hf => exact ⟨by simp [Instr.wellFormed, recordOf_of (op := 0x8E#8) hl ho, hf], rfl⟩
      · next h1 h2 => exact ⟨by simp [Instr.wellFormed, recordOf_of (op := 0x8E#8) hl ho, h1, h2], rfl⟩
  case h_17 =>
    refine ⟨?_, rfl⟩
    simp only [Instr.wellFormed, opcodeUnknown, hl, Config.recordBytes, decide_true, Bool.true_and, decide_eq_true_eq]
    simp only [imp_false] at *
    omega
  all_goals next ho => exact ⟨recordOf_of hl ho, rfl⟩

/-- Settles O31: the sixteen rows with a record, one by one; then every opcode and form. -/
theorem adminRecordsSorted : Obligations.AdminRecordsSorted := by
  refine ⟨fun i r hw hr => ?_, fun r hl => decodeAdmin_wellFormed hl⟩
  cases i with
  | adminInvalidOpcode r => exact Laws.Recorded.adminInvalidOpcode r hw _ hr
  | createCq r => exact Laws.Recorded.createCq r hw _ hr
  | deleteCq r => exact Laws.Recorded.deleteCq r hw _ hr
  | tuneCq r => exact Laws.Recorded.tuneCq r hw _ hr
  | createSq r => exact Laws.Recorded.createSq r hw _ hr
  | deleteSq r => exact Laws.Recorded.deleteSq r hw _ hr
  | configureLine r => exact Laws.Recorded.configureLine r hw _ hr
  | startLine r => exact Laws.Recorded.startLine r hw _ hr
  | stopLineDraining r => exact Laws.Recorded.stopLineDraining r hw _ hr
  | stopLineAborting r => exact Laws.Recorded.stopLineAborting r hw _ hr
  | setNode r => exact Laws.Recorded.setNode r hw _ hr
  | removeNode r => exact Laws.Recorded.removeNode r hw _ hr
  | readNode r => exact Laws.Recorded.readNode r hw _ hr
  | addPoll r => exact Laws.Recorded.addPoll r hw _ hr
  | removePoll r => exact Laws.Recorded.removePoll r hw _ hr
  | readPoll r => exact Laws.Recorded.readPoll r hw _ hr
  | abortBySqAndTag r => exact Laws.Recorded.abortBySqAndTag r hw _ hr
  | abortByNode r => exact Laws.Recorded.abortByNode r hw _ hr
  | abortByLine r => exact Laws.Recorded.abortByLine r hw _ hr
  | setNoticeQueue r => exact Laws.Recorded.setNoticeQueue r hw _ hr
  | _ => cases hr

/-! ### Images (R189) -/

theorem byteAt_append_right {l m : List Byte} {n : Nat} (h : l.length = n) (k : Nat) : byteAt (l ++ m) (n + k) = byteAt m k := by
  subst h
  simp [byteAt, List.getD_eq_getElem?_getD, List.getElem?_append_right]

theorem byteAt_append_left {l m : List Byte} {k : Nat} (h : k < l.length) : byteAt (l ++ m) k = byteAt l k := by
  simp [byteAt, List.getD_eq_getElem?_getD, List.getElem?_append_left h]

theorem length_padTo (n : Nat) (fill : Byte) (l : List Byte) : (padTo n fill l).length = n := by simp [padTo]

theorem byteAt_padTo {n k : Nat} (h : k < n) (fill : Byte) (l : List Byte) : byteAt (padTo n fill l) k = l.getD k fill := by
  unfold byteAt padTo
  rw [List.getD_eq_getElem?_getD, List.getD_eq_getElem?_getD, List.getElem?_take_of_lt h]
  rcases Nat.lt_or_ge k l.length with hk | hk
  · rw [List.getElem?_append_left hk, List.getElem?_eq_getElem hk]
    rfl
  · rw [List.getElem?_append_right hk, List.getElem?_eq_none hk, List.getElem?_replicate_of_lt (by omega)]
    rfl

theorem bit_isSome {α : Type} (o : Option α) (k : Nat) [Decidable (o = none)] :
    bit o.isSome k = if o = none then 0 else 2 ^ k := by
  cases o <;> simp [bit]

/-! ### READ NODE (R62, R169, R189) -/

/-- The fields of a node image, before the pending list. -/
def nodeHead (n : NodeId) (r : Node) : List Byte :=
  [le8 n.val, le8 r.line.val, r.address,
    match r.health with | .unknown => 0x01 | .online => 0x02 | .suspect => 0x03 | .offline => 0x04 | .disabled => 0x05,
    if r.seq then 1 else 0, le8 r.retryLimit, le8 r.offThresh, le8 r.failures, le8 r.respLimit,
    le8 (r.respLimit / 256),
    le8 ((if r.holdOffEnd = none then 0 else 1) + (if r.nextProbe = none then 0 else 2) +
      (if r.openX = none then 0 else 4) + (if r.noticeMark then 8 else 0) + (if r.removal then 16 else 0)),
    match r.openX with | none => 0xFF | some (.slot i) => le8 i.val | some (.poll p) => le8 (64 + p.val),
    le8 r.transitions, le8 r.pendingList.length, 0, 0] ++ le32 (r.holdOffEnd.getD 0).toNat ++
  le32 (r.nextProbe.getD 0).toNat ++
  [le8 r.lastTurn, le8 (r.lastTurn / 256), le8 r.maxTurn, le8 (r.maxTurn / 256)] ++ le32 r.successes ++
  le32 r.silents

theorem length_nodeHead (n : NodeId) (r : Node) : (nodeHead n r).length = 36 := rfl

theorem le8_bit_zero (b : Bool) : le8 (bit b 0) = if b then 1 else 0 := by cases b <;> rfl

theorem nodeMarks_eq (r : Node) : nodeMarks r =
    le8 ((if r.holdOffEnd = none then 0 else 1) + (if r.nextProbe = none then 0 else 2) +
      (if r.openX = none then 0 else 4) + (if r.noticeMark then 8 else 0) + (if r.removal then 16 else 0)) := by
  simp only [nodeMarks, bit_isSome]
  rfl

theorem nodeImage_eq (n : NodeId) (r : Node) :
    nodeImage n r = nodeHead n r ++ padTo 32 0xFF (r.pendingList.map fun i => le8 i.val) := by
  unfold nodeImage nodeHead
  rw [nodeMarks_eq, le8_bit_zero]
  rfl

theorem nodeImage_spec (n : NodeId) (r : Node) : (nodeImage n r).length = 68 ∧ (nodeImage n r).take 36 = nodeHead n r ∧
    ∀ k, k < 32 → byteAt (nodeImage n r) (36 + k) = match r.pendingList[k]? with | some i => le8 i.val | none => 0xFF := by
  rw [nodeImage_eq]
  refine ⟨by rw [List.length_append, length_nodeHead, length_padTo], List.take_left' (length_nodeHead n r), fun k hk => ?_⟩
  rw [byteAt_append_right (length_nodeHead n r), byteAt_padTo hk, List.getD_eq_getElem?_getD, List.getElem?_map]
  cases r.pendingList[k]? <;> rfl

theorem State.setNode_same (s : State) (n : NodeId) : s.setNode n ((s.node n).map fun nd => nd) = s := by
  simp [State.setNode, State.node]

theorem State.nodeImageWritten_eq {s : State} {tag : Nat} {n : NodeId} {h : Health} {c : Option (Nat × Nat × Nat)}
    {w : BusWrite} (hw : s.adminWork = some (.readNode tag n h c)) (ha : s.adWrite = some w) (a : WriteAnswer) :
    s.nodeImageWritten a =
      (({ s with adWrite := none }.undoNode a n c).adminDone tag (imageStatus a) n.val (some h)).closing := by
  unfold State.nodeImageWritten
  split
  · next h1 _ =>
    cases hw.symm.trans h1
    rfl
  · next hno => exact absurd ha (hno _ _ _ _ _ hw)

/-- Settles O26: the image byte by byte; the checks in their order; the clear undone where the write fails. -/
theorem readNode : Obligations.ReadNode := by
  refine ⟨nodeImage_spec, fun s r hr => ?_, fun s tag n h c w hw ha => ⟨?_, ?_⟩⟩
  · intro s1 tag no
    refine State.next_take hr ?_
    unfold State.readNodeCmd
    by_cases h : (byteAt r 4).toNat < 4
    · rw [dif_pos h, show asLine (recLine r) = some ⟨_, h⟩ from asLine_of_lt h]
      cases hu : unicast (recAddress r) with
      | false =>
        have hu' : byteAt r 5 = 0x00#8 ∨ byteAt r 5 = 0xFF#8 := (unicast_false _).mp hu
        dsimp only
        rw [if_pos hu']
        rfl
      | true =>
        have hu' : ¬(byteAt r 5 = 0x00#8 ∨ byteAt r 5 = 0xFF#8) := fun hbad =>
          Bool.false_ne_true (((unicast_false _).mpr hbad).symm.trans hu)
        dsimp only
        rw [if_neg hu', State.taken_findNode]
        change (match s.findNode ⟨_, h⟩ (byteAt r 5) with | none => _ | some n => _) = _
        cases hf : s.findNode ⟨_, h⟩ (byteAt r 5) with
        | none => rfl
        | some n =>
          obtain ⟨nd, hn, -⟩ := State.findNode_some hf
          dsimp only
          rw [State.taken_node, hn]
          dsimp only
          unfold State.imageNode
          cases hc : (byteAt r 1).getLsbD 0 <;> simp only [recOption, recFlags, hc] <;> rfl
    · rw [dif_neg h, show asLine (recLine r) = none from asLine_of_not h]
      cases unicast (recAddress r) <;> rfl
  · exact congrArg Host.Outcome.next (State.nodeImageWritten_eq hw ha .accepted)
  · refine congrArg Host.Outcome.next ((State.nodeImageWritten_eq hw ha .error).trans ?_)
    rcases c with - | ⟨m, su, si⟩
    · have hsame := State.setNode_same { s with adWrite := none } n
      change _ = ((({ s with adWrite := none }).setNode n (Option.map (fun nd => nd)
        (({ s with adWrite := none } : State).node n))).completes tag .hostWriteError n.val (some h)).closing
      rw [hsame]
      rfl
    · rfl

end Sys2Proof.Machine

/-! The poll commands, ABORT, and the end of commands (sections 9.6 and 9.7). -/

namespace Sys2Proof.Machine

/-! ### ADD POLL (R108, R170) -/

/-- The compare set byte by byte. -/
def compareBytes (r : List Byte) : Nat :=
  (byteAt r 24).toNat + 256 * (byteAt r 25).toNat + 65536 * (byteAt r 26).toNat + 16777216 * (byteAt r 27).toNat +
    4294967296 * (byteAt r 28).toNat + 1099511627776 * (byteAt r 29).toNat

theorem parCompare_eq (r : List Byte) : parCompare r = BitVec.ofNat 48 (compareBytes r) := by
  unfold parCompare compareBytes u16At
  congr 1
  simp only [Nat.reduceAdd]
  omega

/-- Byte `j` of the compare set. -/
theorem compareBytes_div (r : List Byte) {j : Nat} (hj : j < 6) :
    compareBytes r / 2 ^ (8 * j) % 2 ^ 8 = (byteAt r (24 + j)).toNat := by
  have h0 := (byteAt r 24).isLt
  have h1 := (byteAt r 25).isLt
  have h2 := (byteAt r 26).isLt
  have h3 := (byteAt r 27).isLt
  have h4 := (byteAt r 28).isLt
  have h5 := (byteAt r 29).isLt
  unfold compareBytes
  interval_cases j <;> simp only [Nat.reduceMul, Nat.reducePow, Nat.reduceAdd, Nat.add_zero, Nat.pow_zero] <;> omega

theorem compareSet_bit (r : List Byte) {p : Nat} (hp : p < 48) :
    (BitVec.ofNat 48 (compareBytes r)).getLsbD p = (byteAt r (24 + p / 8)).getLsbD (p % 8) := by
  have hq : p % 8 < 8 := Nat.mod_lt _ (by decide)
  calc (BitVec.ofNat 48 (compareBytes r)).getLsbD p
      = (compareBytes r).testBit (p % 8 + 8 * (p / 8)) := by
        rw [BitVec.getLsbD_ofNat, Nat.mod_add_div]
        simp [hp]
    _ = (compareBytes r / 2 ^ (8 * (p / 8)) % 2 ^ 8).testBit (p % 8) := by
        rw [Nat.testBit_mod_two_pow, Nat.testBit_div_two_pow]
        simp [hq]
    _ = (byteAt r (24 + p / 8)).getLsbD (p % 8) := by
        rw [compareBytes_div r (by omega)]
        rfl

theorem pollFieldsBad_iff {r : List Byte} (h : (byteAt r 20).toNat < 64) : pollFieldsBad r = true ↔
    ¬(1 ≤ (byteAt r 6).toNat ∧ (byteAt r 6).toNat ≤ 0x3B) ∨ 16 < (byteAt r 7).toNat ∨ u16At r 22 < 10 := by
  have hid : asPoll (parId r) = some ⟨_, h⟩ := asPoll_of_lt h
  have hu := u16At_lt r 22
  simp only [pollFieldsBad, hid, Option.isNone_some, Bool.false_or, Bool.or_eq_true, Bool.not_eq_true', hostFunction,
    decide_eq_true_eq, decide_eq_false_iff_not, or_assoc]
  unfold recFunction recReqLen parPeriod
  have : ¬(10 ≤ u16At r 22 ∧ u16At r 22 ≤ 65535) ↔ u16At r 22 < 10 := by omega
  rw [this]

theorem State.pollStartsActive_eq (s : State) (n : NodeId)
    [Decidable (∃ nd, s.node n = some nd ∧ (nd.health = .unknown ∨ nd.health = .online ∨ nd.health = .suspect) ∧
      (s.line nd.line).st ≠ .off)] :
    s.pollStartsActive n = decide (∃ nd, s.node n = some nd ∧
      (nd.health = .unknown ∨ nd.health = .online ∨ nd.health = .suspect) ∧ (s.line nd.line).st ≠ .off) := by
  rw [Bool.eq_iff_iff, decide_eq_true_eq]
  unfold State.pollStartsActive
  cases s.node n with
  | none => simp
  | some nd => simp [Health.inService_iff]

/-- The entry that ADD POLL makes. -/
theorem State.makePoll_eq (s : State) (np : NewPoll) (data : List Byte)
    [Decidable (∃ nd, s.node np.node = some nd ∧ (nd.health = .unknown ∨ nd.health = .online ∨ nd.health = .suspect) ∧
      (s.line nd.line).st ≠ .off)] :
    s.makePoll np data =
      let on := decide (∃ nd, s.node np.node = some nd ∧
        (nd.health = .unknown ∨ nd.health = .online ∨ nd.health = .suspect) ∧ (s.line nd.line).st ≠ .off)
      s.setPoll np.id (some
        { node := np.node, function := np.function, data := data, period := np.period, compare := np.compare
          buffer := np.buffer, st := if on then .active else .suspended, nextDue := if on then some s.ms else none
          due := false, inst := none, running := false, baseline := false, stored := [], change := false
          lastResult := none, missed := 0, removal := false }) := by
  unfold State.makePoll
  rw [s.pollStartsActive_eq np.node]

theorem State.addPollRead_eq {s : State} {tag : Nat} {np : NewPoll} {b : BusRead}
    (hw : s.adminWork = some (.addPoll tag np)) (hb : s.adRead = some b) (a : ReadAnswer) :
    s.addPollRead a = match a with
      | .data bytes =>
        (({ s with adRead := none }.makePoll np (bytesAt bytes 0 np.reqLen)).adminDone tag .ok np.id.val none).closing
      | .error => ({ s with adRead := none }.adminDone tag .hostReadError np.id.val none).closing := by
  unfold State.addPollRead
  split
  · next h1 _ =>
    cases hw.symm.trans h1
    rfl
  · next hno => exact absurd hb (hno _ _ _ hw)

/-- Settles O27: the checks in their order; the compare set bit by bit; both ends of the data read. -/
theorem addPoll : Obligations.AddPoll := by
  unfold Obligations.AddPoll
  intro compareSet entry
  refine ⟨fun s r hr => ?_, fun r p hp => compareSet_bit r hp, fun s tag np b bytes hw hb hlen => ⟨?_, ?_⟩⟩
  · intro s1 tag no
    refine State.next_take hr ?_
    unfold State.addPollCmd
    by_cases h : (byteAt r 20).toNat < 64
    · rw [dif_pos h, show asPoll (parId r) = some ⟨_, h⟩ from asPoll_of_lt h]
      cases hbad : pollFieldsBad r with
      | true =>
        rw [if_pos ((pollFieldsBad_iff h).mp hbad)]
        rfl
      | false =>
        rw [if_neg (fun hf => Bool.false_ne_true (hbad.symm.trans ((pollFieldsBad_iff h).mpr hf)))]
        refine if_congr (by rw [Option.isSome_iff_ne_none]; rfl) rfl ?_
        by_cases hl : (byteAt r 4).toNat < 4
        · rw [dif_pos hl]
          have hk : s1.findKey r = s.findNode ⟨_, hl⟩ (byteAt r 5) := by
            unfold State.findKey
            rw [show asLine (recLine r) = some ⟨_, hl⟩ from asLine_of_lt hl]
            rfl
          rw [hk]
          cases hf : s.findNode ⟨_, hl⟩ (byteAt r 5) with
          | none => rfl
          | some n =>
            obtain ⟨nd, hn, -⟩ := State.findNode_some hf
            have hm : ((s1.node n).map (·.removal)).getD true = nd.removal := by rw [State.taken_node, hn]; rfl
            have hex : (∃ d, s.node n = some d ∧ d.removal = false) ↔ nd.removal = false := by simp [hn]
            dsimp only
            rw [hm]
            cases hrm : nd.removal with
            | true =>
              rw [if_pos rfl, if_neg (by rw [hex, hrm]; exact nofun)]
              rfl
            | false =>
              rw [if_neg nofun, if_pos (hex.mpr hrm)]
              refine if_congr .rfl ?_ ?_
              · rw [State.makePoll_eq, newPoll, parCompare_eq]
                rfl
              · rw [newPoll, parCompare_eq]
                rfl
        · have hk : s1.findKey r = none := by
            unfold State.findKey
            rw [show asLine (recLine r) = none from asLine_of_not hl]
          rw [dif_neg hl, hk]
          rfl
    · rw [dif_neg h, show asPoll (parId r) = none from asPoll_of_not h]
      cases pollFieldsBad r <;> rfl
  · refine congrArg Host.Outcome.next ((State.addPollRead_eq hw hb (.data bytes)).trans ?_)
    dsimp only
    rw [← hlen, bytesAt_length, State.makePoll_eq]
    rfl
  · exact congrArg Host.Outcome.next (State.addPollRead_eq hw hb .error)

/-! ### REMOVE POLL, READ POLL (R116, R120, R121, R171, R172, R188, R189) -/

theorem le8_congr {a b : Nat} (h : a % 256 = b % 256) : le8 a = le8 b := by
  apply BitVec.eq_of_toNat_eq
  simpa [le8] using h

theorem pollMarks_eq (e : Poll) : pollMarks e =
    le8 ((if e.due then 1 else 0) + (if e.inst = none then 0 else 2) + (if e.running then 4 else 0) +
      (if e.baseline then 8 else 0) + (if e.change then 16 else 0) + (if e.removal then 32 else 0) +
      (if e.nextDue = none then 0 else 64)) := by
  simp only [pollMarks, bit_isSome]
  rfl

theorem instBytes_eq (x : Option PollInst) : instBytes x =
    match x with
    | none => [0, 0, 0, 0xFF]
    | some k => [le8 k.attempts, if k.seq then 1 else 0, le8 k.retry, outcomeCode k.lastOut] := by
  cases x with
  | none => rfl
  | some k => rw [instBytes, le8_bit_zero]

/-- The compare set of an image, byte by byte. -/
theorem compareBytes_image (c : Nat) : le32 (c % 4294967296) ++ le16 (c / 4294967296) =
    [le8 c, le8 (c / 256), le8 (c / 65536), le8 (c / 16777216), le8 (c / 4294967296), le8 (c / 1099511627776)] := by
  have h0 : le8 (c % 4294967296) = le8 c := le8_congr (by omega)
  have h1 : le8 (c % 4294967296 / 256) = le8 (c / 256) := le8_congr (by omega)
  have h2 : le8 (c % 4294967296 / 65536) = le8 (c / 65536) := le8_congr (by omega)
  have h3 : le8 (c % 4294967296 / 16777216) = le8 (c / 16777216) := le8_congr (by omega)
  have h4 : le8 (c / 4294967296 / 256) = le8 (c / 1099511627776) := le8_congr (by omega)
  simp only [le32, le16, h0, h1, h2, h3, h4, List.cons_append, List.nil_append]

/-- The fields of a poll image, before the request data. -/
def pollHead (p : PollId) (e : Poll) : List Byte :=
  [le8 p.val, le8 e.node.val, e.function, le8 e.data.length, e.st.code,
    le8 ((if e.due then 1 else 0) + (if e.inst = none then 0 else 2) + (if e.running then 4 else 0) +
      (if e.baseline then 8 else 0) + (if e.change then 16 else 0) + (if e.removal then 32 else 0) +
      (if e.nextDue = none then 0 else 64)),
    resultCode e.lastResult, le8 e.missed, le8 e.period, le8 (e.period / 256), le8 e.stored.length] ++
  (match e.inst with
    | none => [0, 0, 0, 0xFF]
    | some k => [le8 k.attempts, if k.seq then 1 else 0, le8 k.retry, outcomeCode k.lastOut]) ++ [0] ++
  le32 (e.nextDue.getD 0).toNat ++ le32 e.buffer.toNat ++
  [le8 e.compare.toNat, le8 (e.compare.toNat / 256), le8 (e.compare.toNat / 65536),
    le8 (e.compare.toNat / 16777216), le8 (e.compare.toNat / 4294967296), le8 (e.compare.toNat / 1099511627776), 0,
    0]

theorem length_pollHead (p : PollId) (e : Poll) : (pollHead p e).length = 32 := by
  unfold pollHead
  cases e.inst <;> rfl

theorem pollImage_eq (p : PollId) (e : Poll) :
    pollImage p e = pollHead p e ++ (padTo 16 0 e.data ++ padTo 48 0 e.stored) := by
  unfold pollImage pollHead timeBytes
  rw [pollMarks_eq, instBytes_eq, compareBytes_image]
  simp only [le16, List.append_assoc, List.cons_append, List.nil_append]

theorem pollImage_bytes (p : PollId) (e : Poll) : (pollImage p e).length = 96 ∧ (pollImage p e).take 32 = pollHead p e ∧
    (∀ k, k < 16 → byteAt (pollImage p e) (32 + k) = e.data.getD k 0) ∧
    ∀ k, k < 48 → byteAt (pollImage p e) (48 + k) = e.stored.getD k 0 := by
  have h16 := length_padTo 16 0 e.data
  rw [pollImage_eq]
  refine ⟨?_, List.take_left' (length_pollHead p e), fun k hk => ?_, fun k hk => ?_⟩
  · rw [List.length_append, List.length_append, length_pollHead, h16, length_padTo]
  · rw [byteAt_append_right (length_pollHead p e), byteAt_append_left (by omega), byteAt_padTo hk]
  · rw [show 48 + k = 32 + (16 + k) by omega, byteAt_append_right (length_pollHead p e), byteAt_append_right h16,
      byteAt_padTo hk]

theorem State.pollImageWritten_eq {s : State} {tag : Nat} {p : PollId} {m : Nat} {w : BusWrite}
    (hw : s.adminWork = some (.readPoll tag p m)) (ha : s.adWrite = some w) (a : WriteAnswer) :
    s.pollImageWritten a =
      (({ s with adWrite := none }.undoPoll a p m).adminDone tag (imageStatus a) p.val none).closing := by
  unfold State.pollImageWritten
  split
  · next h1 _ =>
    cases hw.symm.trans h1
    rfl
  · next hno => exact absurd ha (hno _ _ _ _ hw)

/-- What REMOVE POLL leaves of the entry. -/
theorem State.removePollMark_some {s : State} {p : PollId} {e : Poll} (h : s.poll p = some e) :
    s.removePollMark p = ((s.withdraw p).unpend (.poll p)).setPoll p (some
      { e with due := false, inst := none, baseline := false, nextDue := none, change := false, removal := true }) := by
  have hw : ((s.withdraw p).unpend (.poll p)).poll p = some e.withdrawn := by
    rw [State.unpend_poll, State.poll_withdraw, if_pos rfl, h]
    rfl
  rw [State.removePollMark, State.modPoll, hw]
  rfl

/-- Settles O28: the image byte by byte; the checks of the two commands in their order; both ends of the image write. -/
theorem removeAndReadPoll : Obligations.RemoveAndReadPoll := by
  refine ⟨fun p e => ?_, fun s r hr => ?_, fun s tag p m w hw ha => ⟨?_, ?_⟩⟩
  · intro code outcome
    obtain ⟨hlen, htake, hdata, hstored⟩ := pollImage_bytes p e
    refine ⟨hlen, htake.trans ?_, hdata, hstored⟩
    unfold pollHead
    congr 1
    congr 1
    congr 1
    congr 1
    congr 1
    cases e.inst with
    | none => rfl
    | some k =>
      dsimp only
      cases k.lastOut with
      | none => rfl
      | some o => cases o <;> rfl
  · intro s1 tag no
    refine ⟨State.next_take hr ?_, State.next_take hr ?_⟩ <;> by_cases h : (byteAt r 20).toNat < 64
    · rw [dif_pos h, State.removePollCmd, show asPoll (parId r) = some ⟨_, h⟩ from asPoll_of_lt h]
      dsimp only
      rw [State.taken_poll]
      cases he : s.poll ⟨(byteAt r 20).toNat, h⟩ with
      | none => rfl
      | some e =>
        dsimp only
        refine if_congr .rfl rfl ?_
        rw [State.removePollMark_some (s := s.taken) he]
        refine State.doneOrAwait_eq ?_
        rw [State.pollEmptyDue, State.poll_setPoll_self]
        simp
    · rw [dif_neg h, State.removePollCmd, show asPoll (parId r) = none from asPoll_of_not h]
      rfl
    · rw [dif_pos h, State.readPollCmd, show asPoll (parId r) = some ⟨_, h⟩ from asPoll_of_lt h]
      dsimp only
      rw [State.taken_poll]
      cases s.poll ⟨(byteAt r 20).toNat, h⟩ <;> rfl
    · rw [dif_neg h, State.readPollCmd, show asPoll (parId r) = none from asPoll_of_not h]
      rfl
  · exact congrArg Host.Outcome.next (State.pollImageWritten_eq hw ha .accepted)
  · exact congrArg Host.Outcome.next (State.pollImageWritten_eq hw ha .error)

/-! ### ABORT (R85, R89, R173, R174) -/

/-- A completion without an answer, in the state that is left when the transaction has left its list (R89). -/
theorem State.complete_eq {s : State} {i : SlotId} {x : Slot} {t : Txn} (hx : s.slot i = some x) (ht : x.txn = some t)
    (st : Status) (code : Byte) (turn : Nat) (unk : Bool) {u : State} {h : Option Health} (hu : s.leaveList i t = u)
    (hh : u.healthOfTxn t = h) (hslot : u.slot i = some x) :
    s.complete i st code turn unk =
      (u.setSlot i (some { x with st := .held, settled := some (Settled.plain st code turn h unk) })).setCq (u.sq x.sq).cq
        { u.cq (u.sq x.sq).cq with held := (u.cq (u.sq x.sq).cq).held ++ [HeldRef.slot i] } := by
  have hc : s.complete i st code turn unk =
      (s.leaveList i t).enterHeld i (Settled.plain st code turn ((s.leaveList i t).healthOfTxn t) unk) := by
    obtain ⟨sst, q, cls, tag, txn, se⟩ := x
    cases ht
    unfold State.complete
    rw [hx]
  rw [hc, hu, hh]
  exact State.enterHeld_some hslot _

theorem State.abortSlot_spec (s : State) (i : SlotId) (x : Slot) (t : Txn) (hx : s.slot i = some x) (ht : x.txn = some t) :
    (x.st = .pending → s.abortSlot i = s.complete i .aborted 0 0 false) ∧
    (x.st = .active → x.settled = none →
      s.abortSlot i = s.setSlot i (some { x with txn := some { t with abortMark := true } })) ∧
    (x.st = .active → x.settled ≠ none → s.abortSlot i = s) ∧ (x.st = .held ∨ x.st = .fetching → s.abortSlot i = s) := by
  have hpend : s.isPending i = (x.st == .pending) := by simp [State.isPending, hx]
  have hrun : s.attemptRuns i = (x.st == .active && x.settled.isNone) := by simp [State.attemptRuns, hx]
  unfold State.abortSlot
  rw [hpend, hrun]
  refine ⟨fun h => ?_, fun h hs => ?_, fun h hs => ?_, fun h => ?_⟩
  · simp [h]
  · simp [h, hs, State.modTxn, State.modSlot, hx, ht]
  · simp [h, Option.isNone_iff_eq_none, hs]
  · rcases h with h | h <;> simp [h]

/-- The slots that an ABORT reaches, under two forms of one condition. -/
theorem State.matched_congr {s : State} {f g : Slot → Bool} (h : ∀ x, f x = g x) :
    s.taken.matched f = allSlots.filter fun i =>
      match s.slot i with
      | some x => (x.st == .pending || x.st == .active) && g x
      | none => false := by
  unfold State.matched
  refine List.filter_congr fun i _ => ?_
  rw [State.taken_slot]
  cases s.slot i with
  | none => rfl
  | some x =>
    dsimp only
    rw [h x]

theorem beq_mk_eq {n k : Nat} (q : Fin n) (h : k < n) : (q == ⟨k, h⟩) = (q.val == k) := by
  rw [Bool.eq_iff_iff, beq_iff_eq, beq_iff_eq, Fin.ext_iff]

/-- Settles O29: the four states of a slot; a completion by the kind of its transaction; the three forms with their
checks. -/
theorem abortCommand : Obligations.AbortCommand := by
  refine ⟨fun s i x t hx ht => ?_, fun s r hr => ?_⟩
  · obtain ⟨hp, ha, hs, hh⟩ := s.abortSlot_spec i x t hx ht
    refine ⟨hp, ha, hs, hh, fun st code turn unk => ?_⟩
    intro held
    refine ⟨fun hk n nd hf hn => ?_, fun hk hf => ?_, fun hk => ?_⟩
    · have hleave : s.leaveList i t = s.setNode n (some (nd.dropSlot i)) := by
        unfold State.leaveList
        rw [hk]
        dsimp only
        rw [hf]
        exact State.modNode_some _ hn
      have hfind := (State.findNode_setNode (q := nd.dropSlot i) hn rfl rfl t.line t.address).trans hf
      have hh : (s.setNode n (some (nd.dropSlot i))).healthOfTxn t = some nd.health := by
        unfold State.healthOfTxn State.nodeOfTxn
        rw [hk]
        dsimp only
        rw [hfind]
        dsimp only
        rw [State.node_setNode_self]
        rfl
      exact State.complete_eq hx ht st code turn unk hleave hh hx
    · refine State.complete_eq hx ht st code turn unk (u := s) ?_ ?_ hx
      · unfold State.leaveList
        rw [hk]
        dsimp only
        rw [hf]
      · unfold State.healthOfTxn State.nodeOfTxn
        rw [hk]
        dsimp only
        rw [hf]
    · refine State.complete_eq hx ht st code turn unk
        (u := s.setSched t.line { s.sched t.line with lineList := (s.sched t.line).lineList.filter (· != i) }) ?_ ?_ hx
      · unfold State.leaveList
        cases hk' : t.kind with
        | exchange => exact absurd hk' hk
        | _ => rfl
      · unfold State.healthOfTxn State.nodeOfTxn
        cases hk' : t.kind with
        | exchange => exact absurd hk' hk
        | _ => rfl
  · intro s1 tag no reach live
    refine ⟨State.next_take hr ?_, State.next_take hr ?_, State.next_take hr ?_⟩
    · unfold State.abortTag
      by_cases hfl : byteAt r 1 = 0x00#8
      · have hfl' : (recFlags r == 0) = true := beq_iff_eq.mpr hfl
        rw [hfl']
        by_cases h : (byteAt r 20).toNat < 8
        · rw [show asSq (parId r) = some ⟨_, h⟩ from asSq_of_lt h]
          dsimp only
          by_cases h0 : (byteAt r 20).toNat = 0
          · rw [if_pos ((mk_eq_zero h).mpr h0), if_neg (by omega)]
            rfl
          · rw [if_neg (fun e => h0 ((mk_eq_zero h).mp e)), if_pos ⟨hfl, by omega, by omega⟩, State.matched_congr
              (g := fun x => x.sq.val == (byteAt r 20).toNat && x.tag == u16At r 22) fun x => by
                rw [Slot.hasTag, beq_mk_eq]; rfl]
            rfl
        · rw [show asSq (parId r) = none from asSq_of_not h, if_neg (by omega)]
          rfl
      · have hfl' : (recFlags r == 0) = false := beq_eq_false_iff_ne.mpr hfl
        rw [hfl', if_neg (fun h => hfl h.1)]
        cases asSq (parId r) <;> rfl
    · unfold State.abortNode
      by_cases h : (byteAt r 4).toNat < 4
      · rw [show asLine (recLine r) = some ⟨_, h⟩ from asLine_of_lt h]
        cases hu : unicast (recAddress r) with
        | false =>
          have hu' : byteAt r 5 = 0x00#8 ∨ byteAt r 5 = 0xFF#8 := (unicast_false _).mp hu
          rw [if_neg (by tauto)]
          rfl
        | true =>
          have hu' : ¬(byteAt r 5 = 0x00#8 ∨ byteAt r 5 = 0xFF#8) := fun hbad =>
            Bool.false_ne_true (((unicast_false _).mpr hbad).symm.trans hu)
          dsimp only
          rw [if_pos (by tauto), State.matched_congr (g := fun x => match x.txn with
            | some t => t.kind == .exchange && t.line.val == (byteAt r 4).toNat && t.address == byteAt r 5
            | none => false) fun x => by
              unfold Slot.forNode
              cases x.txn with
              | none => rfl
              | some t => dsimp only; rw [beq_mk_eq]; rfl]
          rfl
      · rw [show asLine (recLine r) = none from asLine_of_not h, if_neg (fun hh => h hh.1)]
        cases unicast (recAddress r) <;> rfl
    · unfold State.abortOnLine
      by_cases h : (byteAt r 4).toNat < 4
      · rw [show asLine (recLine r) = some ⟨_, h⟩ from asLine_of_lt h, if_pos h]
        dsimp only
        rw [State.matched_congr (g := fun x => match x.txn with
            | some t => t.line.val == (byteAt r 4).toNat
            | none => false) fun x => by
              unfold Slot.forLine
              cases x.txn with
              | none => rfl
              | some t => dsimp only; rw [beq_mk_eq]]
        rfl
      · rw [show asLine (recLine r) = none from asLine_of_not h, if_neg h]
        rfl

/-! ### The end of ABORT, ready commands, and the closing of a step (R129, R153, R154, R174) -/

theorem State.isActive_eq (s : State) (i : SlotId) :
    s.isActive i = match s.slot i with | some x => x.st == .active | none => false := rfl

/-- ABORT in work: completed with the last of its slots. -/
theorem State.closeAbort_eq (t : State) : t.closeAbort =
    match t.adminWork with
    | some (.abort tag n l) =>
      if l.any t.isActive then { t with adminWork := some (.abort tag n (l.filter t.isActive)) }
      else t.completes tag .ok n none
    | _ => t := by
  unfold State.closeAbort
  cases t.adminWork with
  | none => rfl
  | some w =>
    cases w with
    | abort tag n l =>
      dsimp only
      have hempty : (l.filter t.isActive).isEmpty = !l.any t.isActive := by
        rw [Bool.eq_iff_iff, Bool.not_eq_true', List.isEmpty_iff, List.filter_eq_nil_iff, List.any_eq_false]
      rw [hempty]
      cases l.any t.isActive <;> rfl
    | _ => rfl

/-- With the context empty, a completion that becomes the admin result is one that ends a command. -/
theorem State.putResult_eq {s : State} (h : s.adminWork = none) (d : AdminDone) :
    s.putResult d = s.completes d.tag d.status d.value d.nodeState := by
  unfold State.completes
  rw [← h]
  rfl

theorem State.readyResult_eq (u : State) : u.readyResult =
    match u.ready with
    | w :: rest =>
      if u.adminWork = none ∧ u.adminResult = none ∧ u.adRead = none then
        { u with ready := rest }.completes w.tag .ok
          (match w.obj with
          | .sq q => q.val | .cq c => c.val | .line l => l.val | .node n => n.val | .poll p => p.val) none
      else u
    | [] => u := by
  unfold State.readyResult
  cases hr : u.ready with
  | nil => exact ite_self _
  | cons w rest =>
    dsimp only
    split
    · next h => exact State.putResult_eq (s := { u with ready := rest }) h.1 w.done
    · rfl

/-- Settles O30: the end of ABORT and a ready command as rows, and as parts of the closing of a step. -/
theorem adminCompletions : Obligations.AdminCompletions := by
  refine ⟨fun s tag n l hc hw hl => ?_, fun s w rest hc h1 h2 h3 hr => ?_, fun s => ⟨fun hc => ?_, fun hc => ?_⟩⟩
  · change Host.Outcome.next s.abortEnds = _
    have hany : l.any s.isActive = false := by
      rw [List.any_eq_false]
      exact fun i hi => by rw [hl i hi]; exact nofun
    have hclose : s.closeAbort = s.completes tag .ok n none := by
      rw [State.closeAbort_eq, hw]
      dsimp only
      rw [hany]
      rfl
    rw [State.abortEnds, if_pos (State.live_of hc), hclose, State.readyResult, if_neg (by exact nofun)]
  · change Host.Outcome.next s.readyEnds = _
    rw [State.readyEnds, if_pos (State.live_of hc)]
    refine congrArg Host.Outcome.next ((State.readyResult_eq s).trans ?_)
    rw [hr]
    exact if_pos ⟨h1, h2, h3⟩
  · refine s.closing_of_not_live ?_
    rcases hc with hc | hc <;> simp [State.live, hc]
  · intro t active u
    have hu : s.closeWaiting.closeAbort = u := State.closeAbort_eq t
    rw [State.closing, if_pos (State.live_of hc), hu]
    exact State.readyResult_eq u

end Sys2Proof.Machine

/-! Line frames: what is read back of a frame, its classification, and a conforming node (chapter 1, R7, R28). -/

namespace Sys2Proof.Machine

/-! ### Reading a frame back -/

theorem bytesAt_append (p m q : List Byte) : bytesAt (p ++ (m ++ q)) p.length m.length = m := by
  unfold bytesAt byteAt
  refine List.ext_getElem (by simp) fun k _ hk => ?_
  simp [List.getD_eq_getElem?_getD, List.getElem?_append_right, List.getElem?_append_left hk, List.getElem?_eq_getElem hk]

theorem and_63_toNat (b : Byte) : (b &&& 0x3F#8).toNat = b.toNat % 64 := by
  rw [BitVec.toNat_and]
  exact Nat.and_two_pow_sub_one_eq_mod b.toNat 6

theorem controlByte_toNat (seq dir : Bool) (code : Byte) :
    (controlByte seq dir code).toNat = bit seq 7 + bit dir 6 + code.toNat % 64 := by
  unfold controlByte le8
  rw [BitVec.toNat_ofNat]
  cases seq <;> cases dir <;> simp only [bit, if_true, Bool.false_eq_true, if_false] <;> omega

theorem getLsbD_eq_div (b : Byte) (k : Nat) : b.getLsbD k = decide (b.toNat / 2 ^ k % 2 = 1) := by
  rw [BitVec.getLsbD, Nat.testBit_eq_decide_div_mod_eq]

theorem controlByte_dir (seq dir : Bool) (code : Byte) : (controlByte seq dir code).getLsbD 6 = dir := by
  rw [getLsbD_eq_div, controlByte_toNat, Bool.eq_iff_iff, decide_eq_true_eq]
  cases seq <;> cases dir <;> simp only [bit, if_true, Bool.false_eq_true, if_false, iff_true, iff_false] <;> omega

theorem controlByte_seq (seq dir : Bool) (code : Byte) : (controlByte seq dir code).getLsbD 7 = seq := by
  rw [getLsbD_eq_div, controlByte_toNat, Bool.eq_iff_iff, decide_eq_true_eq]
  cases seq <;> cases dir <;> simp only [bit, if_true, Bool.false_eq_true, if_false, iff_true, iff_false] <;> omega

theorem controlByte_code (seq dir : Bool) {code : Byte} (h : code.toNat < 64) : controlByte seq dir code &&& 0x3F#8 = code := by
  apply BitVec.eq_of_toNat_eq
  rw [and_63_toNat, controlByte_toNat]
  cases seq <;> cases dir <;> simp only [bit, if_true, Bool.false_eq_true, if_false] <;> omega

section
variable (address control : Byte) {data : List Byte}

theorem length_frameBody (data : List Byte) : (frameBody address control data).length = 3 + data.length := by
  simp [frameBody]
  omega

theorem rxLength_frameOf (h : data.length ≤ 48) : rxLength (frameOf address control data) = data.length := by
  change (le8 data.length).toNat = _
  unfold le8
  rw [BitVec.toNat_ofNat]
  omega

theorem rxData_frameOf (h : data.length ≤ 48) : rxData (frameOf address control data) = data := by
  unfold rxData
  rw [rxLength_frameOf address control h]
  exact bytesAt_append [address, control, le8 data.length] data _

theorem rxCheckOk_frameOf (h : data.length ≤ 48) : rxCheckOk (frameOf address control data) = true := by
  have hbody := length_frameBody address control data
  have htake : (frameOf address control data).take (3 + data.length) = frameBody address control data := by
    rw [← hbody]
    exact List.take_left
  have hcheck := bytesAt_append (frameBody address control data) (checkChars (frameBody address control data)) []
  rw [List.append_nil, hbody] at hcheck
  unfold rxCheckOk
  rw [rxLength_frameOf address control h, htake]
  exact beq_iff_eq.mpr hcheck

theorem frameWhole_frameOf (h : data.length ≤ 48) : frameWhole (frameOf address control data) = true := by
  have hlen : (frameOf address control data).length = data.length + 5 := by
    rw [frameOf, List.length_append, length_frameBody]
    change 3 + data.length + 2 = _
    omega
  rw [frameWhole, rxLength_frameOf address control h, rxCheckOk_frameOf address control h, hlen]
  simp

end

theorem rxDir_frameOf (address : Byte) (seq dir : Bool) (code : Byte) (data : List Byte) :
    rxDir (frameOf address (controlByte seq dir code) data) = dir := controlByte_dir seq dir code

theorem rxSeq_frameOf (address : Byte) (seq dir : Bool) (code : Byte) (data : List Byte) :
    rxSeq (frameOf address (controlByte seq dir code) data) = seq := controlByte_seq seq dir code

theorem rxCode_frameOf (address : Byte) (seq dir : Bool) {code : Byte} (h : code.toNat < 64) (data : List Byte) :
    rxCode (frameOf address (controlByte seq dir code) data) = code := controlByte_code seq dir h

/-! ### Classification (R7, R28) -/

theorem classify_long {a : Attempt} {f : List Byte} (h : 48 < rxLength f) : classify a f = .checkError := by
  have hm : rxMalformed a f = true := by simp [rxMalformed, Config.maxData, h]
  rw [classify, hm, if_pos rfl, ite_self]

theorem classify_badCheck {a : Attempt} {f : List Byte} (h : rxLength f ≤ 48) (hc : rxCheckOk f = false) :
    classify a f = .checkError := by
  simp [classify, Config.maxData, h, hc]

/-- A frame with a correct check, by its DIR, CODE and SEQ. -/
theorem classify_frameOf (a : Attempt) (seq dir : Bool) {code : Byte} {data : List Byte} (hcode : code.toNat < 64)
    (hdata : data.length ≤ 48) : classify a (frameOf a.address (controlByte seq dir code) data) =
      (if dir = false ∨ ¬(code = a.function ∨ code = 0x3C#8 ∨ code = 0x3D#8) then .checkError
       else if seq ≠ a.seq ∧ a.function ≠ 0x00#8 then .stale
       else if code = a.function then .replyOk
       else if code = 0x3C#8 then .replyReject
       else .replyBusy) := by
  have hlen : ¬Config.maxData < data.length := Nat.not_lt.mpr hdata
  unfold classify rxMalformed Attempt.isProbe
  rw [rxLength_frameOf a.address _ hdata, rxCheckOk_frameOf a.address _ hdata, rxDir_frameOf, rxSeq_frameOf,
    rxCode_frameOf _ _ _ hcode, Bool.not_true, Bool.and_false, if_neg Bool.false_ne_true]
  refine if_congr ?_ rfl (if_congr ?_ rfl (if_congr beq_iff_eq rfl (if_congr beq_iff_eq rfl rfl)))
  · simp [hlen, codeReject, codeBusy, and_assoc]
  · simp [fnProbe]

/-- Settles O42: a bad length or check first; then the frames with a correct check. -/
theorem framesClassified : Obligations.FramesClassified := by
  refine ⟨fun a f => ⟨fun h => classify_long h, fun h hc => classify_badCheck h ?_⟩,
    fun a seq dir code data hcode hdata => classify_frameOf a seq dir hcode hdata⟩
  exact beq_eq_false_iff_ne.mpr hc

/-! ### A conforming node (R9, R12 to R14) -/

theorem Attempt.requestOk_frame {a : Attempt} (h : a.data.length ≤ 48) : requestOk a.frame = true := by
  have hw : frameWhole a.frame = true := frameWhole_frameOf _ _ h
  have hd : rxDir a.frame = false := rxDir_frameOf _ _ _ _ _
  have hl : rxLength a.frame = a.data.length := rxLength_frameOf _ _ h
  simp [requestOk, hw, hd, hl, Config.maxData, h]

/-- A request of a host function reaches the firmware of the node that it addresses. -/
theorem Remote.hear_frame {n : Remote} {a : Attempt} (h1 : 1 ≤ a.function.toNat) (h2 : a.function.toNat ≤ 0x3B)
    (hd : a.data.length ≤ 48) (hn : n.address = a.address) (ha : a.address ≠ 0xFF#8) (d : Deed) (identity : List Byte) :
    n.hear d identity a.frame = n.exchange d a.frame := by
  have haddr : byteAt a.frame 0 = a.address := rfl
  have hcode : rxCode a.frame = a.function := rxCode_frameOf _ _ _ (by omega) _
  have hprobe : a.function ≠ fnProbe := fun h => by
    rw [h] at h1
    exact absurd h1 (by decide)
  have hhost : hostFunction a.function = true := decide_eq_true ⟨h1, h2⟩
  rw [Remote.hear, Attempt.requestOk_frame hd, if_neg (by exact nofun), haddr,
    if_neg (show a.address ≠ broadcastAddr from ha), if_neg (not_not.mpr hn.symm), hcode,
    if_neg hprobe, if_pos hhost]

/-- Settles O43: the new request is executed and its reply cached; the same request again draws the cached reply. -/
theorem exactlyOnceAtTheNode : Obligations.ExactlyOnceAtTheNode := by
  intro a n data again identity h1 h2 hd hdata hn ha he
  have hcode : rxCode a.frame = a.function := rxCode_frameOf _ _ _ (by omega) _
  have hseq : rxSeq a.frame = a.seq := rxSeq_frameOf _ _ _ _ _
  have hreply : replyFrame a.frame (rxCode a.frame) data = frameOf a.address (controlByte a.seq true a.function) data := by
    rw [replyFrame, hseq, hcode]
    rfl
  refine ⟨{ n with expected := !a.seq, cached := some (replyFrame a.frame (rxCode a.frame) data) },
    replyFrame a.frame (rxCode a.frame) data, ?_, rfl, ?_, ?_, ?_⟩
  · rw [Remote.hear_frame h1 h2 hd hn ha, Remote.exchange, hseq, if_pos he.symm]
    change n.executes a.frame _ = _
    rw [Remote.executes, hseq]
  · rw [hreply, classify_frameOf a _ _ (by omega) hdata, if_neg (by simp), if_neg (by simp), if_pos rfl]
  · rw [hreply, rxData_frameOf _ _ hdata]
  · rw [Remote.hear_frame h1 h2 hd (n := { n with
      expected := !a.seq, cached := some (replyFrame a.frame (rxCode a.frame) data) }) hn ha]
    dsimp only [Remote.exchange]
    rw [hseq, if_neg (by cases a.seq <;> exact nofun)]

end Sys2Proof.Machine

/-! The events of a line unit (chapter 2): how attempts end, the timers, the break, what a character does. -/

namespace Sys2Proof.Machine

/-! ### The branches of the events -/

/-- What comes about in the step follows the event. -/
theorem next_closing {s t : State} (h : s = t) :
    (Host.Outcome.next s.closing : Host.Outcome State Fault Refusal) = .next t.closing := by rw [h]

theorem Line.sendingNow_iff (x : Line) : x.sendingNow = true ↔ x.st = .tx ∨ (x.st = .starting ∧ x.phase = .sending) ∨
    (x.driver = true ∧ (x.st = .off ∨ x.st = .starting)) := by
  simp [Line.sendingNow, Line.cutSending, or_assoc]

theorem Line.not_sendingNow {x : Line} (h : x.st = .wait ∨ x.st = .rx) : x.sendingNow = false := by
  rcases h with h | h <;> simp [Line.sendingNow, Line.cutSending, h]

theorem Line.guardReached_iff (x : Line) : x.guardReached = true ↔
    x.quietOn = false ∧ x.inChar = false ∧ x.space = false ∧ x.cfg.guardTime ≤ x.guardT := by
  simp [Line.guardReached, Line.guardRuns, Line.silent_iff, and_assoc]

theorem echoMatches_iff (b : Byte) (m : Bool) (e : Echo) : echoMatches b m e = true ↔ e = .char b m true := by
  cases e <;> simp [echoMatches, and_assoc]

theorem echoMatches_self (b : Byte) (m : Bool) : echoMatches b m (.char b m true) = true :=
  (echoMatches_iff b m _).mpr rfl

theorem echoMatches_ne {b : Byte} {m : Bool} {e : Echo} (h : e ≠ .char b m true) : echoMatches b m e = false :=
  Bool.eq_false_iff.mpr fun hm => h ((echoMatches_iff b m e).mp hm)

namespace State

variable {s : State} {l : LineId} {a : Attempt}

theorem endAttempt_some (h : (s.line l).attempt = some a) (rep : Report) (dest : LineSt) :
    s.endAttempt l rep dest = (s.setLine l ((s.line l).without dest)).reportTo a rep := by
  unfold State.endAttempt
  rw [h]
  rfl

/-- The attempt of a line that is changed first, but for what the end sets anyway. -/
theorem endAttempt_setLine {x : Line} (h : x.attempt = some a) (rep : Report) (dest : LineSt) :
    (s.setLine l x).endAttempt l rep dest = (s.setLine l (x.without dest)).reportTo a rep := by
  have hx : ((s.setLine l x).line l).attempt = some a := by rw [State.line_setLine_self]; exact h
  rw [State.endAttempt_some hx, State.line_setLine_self, State.setLine_setLine]

theorem charSent_tx (h : (s.line l).st = .tx) (ha : (s.line l).attempt = some a) (e : Echo) :
    s.charSent l e = s.txChar l a e := by
  simp only [State.charSent, h, ha]

theorem charSent_sending (h : (s.line l).st = .starting) (hp : (s.line l).phase = .sending) (e : Echo) :
    s.charSent l e = s.resyncChar l e := by
  simp only [State.charSent, h, hp, if_true]

theorem charSent_cut (h : (s.line l).st = .off ∨ ((s.line l).st = .starting ∧ (s.line l).phase ≠ .sending)) (e : Echo) :
    s.charSent l e = s.setLine l ((s.line l).cutEnds e) := by
  rcases h with h | ⟨h, hp⟩
  · simp only [State.charSent, h]
  · simp only [State.charSent, h, if_neg hp]

theorem receive_reply (h : (s.line l).st = .wait ∨ (s.line l).st = .rx) (b : Byte) (last : CharEnd)
    (hs : last.stopOk = false) : s.receive l b last = s.setLine l (((s.line l).unstopped b last.mark).leavesIdle) := by
  unfold State.receive
  dsimp only
  rw [if_neg (by rw [Line.not_sendingNow h]; exact nofun), if_neg (by rcases h with h | h <;> rw [h] <;> exact nofun),
    if_pos hs]

theorem receive_wait (h : (s.line l).st = .wait) (ha : (s.line l).attempt = some a) (b : Byte) (m : Bool) :
    s.receive l b { mark := m, stopOk := true } =
      (s.setLine l ((s.line l).heard (markRun b m))).waitChar l a b m := by
  have hs := Line.not_sendingNow (.inl h)
  unfold State.receive
  simp only [hs, h, ha]
  rfl

theorem receive_rx (h : (s.line l).st = .rx) (ha : (s.line l).attempt = some a) (b : Byte) (m : Bool) :
    s.receive l b { mark := m, stopOk := true } =
      (s.setLine l ((s.line l).heard (markRun b m))).rxChar l a b m := by
  have hs := Line.not_sendingNow (.inr h)
  unfold State.receive
  simp only [hs, h, ha]
  rfl

theorem missingStop_reply (h : (s.line l).st = .wait ∨ (s.line l).st = .rx) :
    s.missingStop l = (s.setLine l ((s.line l).heard 0)).endAttempt l (Report.bare .charError) .settle := by
  have hs := Line.not_sendingNow h
  unfold State.missingStop
  rcases h with h | h <;> simp only [hs, h] <;> rfl

/-- The gap timer has passed the gap limit on a silent line (R18). -/
def GapPassed (x : Line) : Prop :=
  x.inChar = false ∧ x.space = false ∧ x.cfg.gapLimit * (10 + x.cfg.stopBits) < x.gapT

theorem gapPassed_iff (x : Line) : (x.silent = true ∧ x.cfg.gapBits < x.gapT) ↔ GapPassed x := by
  rw [Line.silent_iff, and_assoc]
  rfl

theorem gapPassed_of (h : GapPassed (s.line l)) : s.gapPassed l =
    match (s.line l).st with
    | .rx => s.endAttempt l (Report.bare .truncated) .guard
    | .wait => s.setLine l { s.line l with foreign := false }
    | .settle => s.setLine l { s.line l with st := .guard }
    | .starting => if (s.line l).phase = .clashed then s.setLine l { s.line l with phase := .guardWait } else s
    | _ => s := if_pos ((gapPassed_iff _).mpr h)

theorem gapPassed_of_not (h : ¬GapPassed (s.line l)) : s.gapPassed l = s := if_neg fun hg => h ((gapPassed_iff _).mp hg)

theorem respTimeout_wait (h : (s.line l).st = .wait) (ha : (s.line l).attempt = some a) : s.respTimeout l =
    if (s.line l).silent = true ∧ a.respLimit.getD 0 ≤ (s.line l).respT then
      s.endAttempt l (Report.bare .timeout) .guard else s := by
  simp only [State.respTimeout, h, ha]

theorem guardWait_guard (h : (s.line l).st = .guard) (ha : (s.line l).attempt = some a) : s.guardWait l =
    if (s.line l).waitBound a ≤ (s.line l).waited ∧ (s.line l).guardReached = false then
      s.endAttempt l (Report.plain .clash false) .guard else s := by
  simp only [State.guardWait, h, ha]

end State

/-! ### How attempts end (R21, R22, R25, R27, R29, R32) -/

/-- What a line hears of a character that it sent and that does not match (R18, R22). -/
theorem Line.clashed_echoed (x : Line) (e : Echo) : (x.echoed e).clashed e =
    match e with
    | .silence => { x with inChar := false, guardT := x.guardT + x.charT, gapT := 0 }
    | .char b m true => x.echoed (.char b m true)
    | .char b m false => x.echoed (.char b m false) := by
  cases e with
  | silence => rfl
  | char b m ok => cases ok <;> rfl

/-- Settles O45: the end of an attempt, and each event that ends one or acts on its line's timers. -/
theorem attemptsEnd : Obligations.AttemptsEnd := by
  intro s l x second levels heard wire late
  have hwire (e : Echo) : (x.echoed e).clashed e = wire e := by
    rw [Line.clashed_echoed]
    rcases e with - | ⟨b, m, ok⟩
    · rfl
    · cases ok <;> rfl
  refine ⟨fun a ha => ⟨fun rep dest => ?_, fun e hst he => next_closing ?_, fun hst => next_closing ?_,
    fun hst hlate => next_closing ?_, fun hst hin hsp hlim => next_closing ?_, fun hst hno => next_closing ?_,
    fun hst hb hno => next_closing ?_, fun hst hb => next_closing ?_⟩,
    fun hlate hst => next_closing ?_, fun hlate hst => next_closing ?_, fun hlate hst hph => next_closing ?_,
    fun hlate => next_closing ?_⟩
  · rw [State.endAttempt_some ha]
    rfl
  · rw [State.charSent_tx hst ha, State.txChar]
    change (if echoMatches (byteAt a.frame x.txPos) (x.txPos == 0) e = true then _ else _) = _
    rw [echoMatches_ne he, if_neg Bool.false_ne_true]
    exact congrArg (fun y => (s.setLine l y).endAttempt l (Report.bare .clash) .settle) (hwire e)
  · exact State.missingStop_reply hst
  · rw [State.gapPassed_of hlate, hst]
    rfl
  · rw [State.respTimeout_wait hst ha, if_pos ⟨(Line.silent_iff _).mpr ⟨hin, hsp⟩, hlim⟩]
    rfl
  · rw [State.respTimeout_wait hst ha, if_neg]
    rw [Line.silent_iff]
    rintro ⟨⟨hin, hsp⟩, hlim⟩
    rcases hno with h | h | h
    · exact Bool.false_ne_true (hin.symm.trans h)
    · exact Bool.false_ne_true (hsp.symm.trans h)
    · exact absurd hlim (Nat.not_le.mpr h)
  · rw [State.guardWait_guard hst ha, if_pos]
    · rfl
    · refine ⟨hb, Bool.eq_false_iff.mpr fun hr => ?_⟩
      obtain ⟨hq, hin, hsp, hg⟩ := (Line.guardReached_iff _).mp hr
      rcases hno with h | h | h | h
      · exact Bool.false_ne_true (hq.symm.trans h)
      · exact Bool.false_ne_true (hin.symm.trans h)
      · exact Bool.false_ne_true (hsp.symm.trans h)
      · exact absurd hg (Nat.not_le.mpr h)
  · rw [State.guardWait_guard hst ha, if_neg fun h => absurd h.1 (Nat.not_le.mpr hb)]
  · rw [State.gapPassed_of hlate]
    dsimp only
    rw [hst]
  · rw [State.gapPassed_of hlate]
    dsimp only
    rw [hst]
  · rw [State.gapPassed_of hlate]
    dsimp only
    rw [hst]
    exact if_pos hph
  · exact State.gapPassed_of_not hlate

/-! ### The guard time and the quiet time (R18, R21, R23, R31, R36) -/

theorem State.guardTime_of (s : State) (l : LineId) (h : (s.line l).guardReached = true) : s.guardTime l =
    if (s.line l).awaitsGuard = true then s.setLine l (s.line l).guardDone else s := by
  unfold State.guardTime
  dsimp only
  rw [h, Bool.and_true]
  rfl

theorem Line.guardDone_some {x : Line} {a : Attempt} (h : x.st = .guard) (ha : x.attempt = some a) :
    x.guardDone = x.enterTx := by
  simp only [Line.guardDone, h, ha]

theorem Line.guardDone_none {x : Line} (h : x.st = .guard) (ha : x.attempt = none) : x.guardDone = { x with st := .idle } := by
  simp only [Line.guardDone, h, ha]

theorem Line.guardDone_starting {x : Line} (h : x.st = .starting) (hp : x.phase = .guardWait) :
    x.guardDone = x.enterSending := by
  simp only [Line.guardDone, h, hp, if_true]

/-- Settles O46: the states that wait for the guard time; the expiry of the quiet timer; neither before its time. -/
theorem guardAndQuiet : Obligations.GuardAndQuiet := by
  intro s l x reached
  refine ⟨fun hr => ⟨fun hst a ha => next_closing ?_, fun hst ha => next_closing ?_, fun hst hp => next_closing ?_⟩,
    fun hr => next_closing ?_, fun hq ht => next_closing ?_, fun hno => next_closing ?_⟩
  · rw [State.guardTime_of s l ((Line.guardReached_iff _).mpr hr), if_pos (by simp [Line.awaitsGuard, x, hst])]
    rw [Line.guardDone_some hst ha]
    rfl
  · rw [State.guardTime_of s l ((Line.guardReached_iff _).mpr hr), if_pos (by simp [Line.awaitsGuard, x, hst])]
    rw [Line.guardDone_none hst ha]
  · rw [State.guardTime_of s l ((Line.guardReached_iff _).mpr hr), if_pos (by simp [Line.awaitsGuard, x, hst, hp])]
    rw [Line.guardDone_starting hst hp]
    rfl
  · unfold State.guardTime
    dsimp only
    rw [if_neg]
    rw [Bool.and_eq_true]
    exact fun h => hr ((Line.guardReached_iff _).mp h.2)
  · exact if_pos ⟨hq, ht⟩
  · refine if_neg fun h => ?_
    rcases hno with hq | ht
    · exact Bool.false_ne_true (hq.symm.trans h.1)
    · exact absurd h.2 (Nat.not_le.mpr ht)

/-! ### A break and its end (R34, R35) -/

theorem Line.requestSent_beq (x : Line) : x.requestSent = (x.st == .tx || x.st == .wait || x.st == .rx) := by
  unfold Line.requestSent
  cases x.st <;> rfl

/-- Settles O47: the entry to FAULT with and without an attempt, and the recovery; neither before its time. -/
theorem breakAndRecovery : Obligations.BreakAndRecovery := by
  intro s l x breakTime pending
  have hbreak (hoff : x.st ≠ .off) (hf : x.st ≠ .fault) (ht : breakTime ≤ x.breakT) : s.breakSeen l =
      ((s.setLine l x.enterFault).endAttempt l (Report.plain .fault x.requestSent) .fault).pend (.line l) :=
    (if_pos ht).trans (if_neg (not_or.mpr ⟨hoff, hf⟩))
  refine ⟨fun hoff hf ht => ?_, fun hno => next_closing ?_, fun hf ht => next_closing ?_, fun hno => next_closing ?_⟩
  · intro u
    refine ⟨fun ha => next_closing ?_, fun a ha => next_closing ?_⟩
    · have hnone : ((s.setLine l x.enterFault).line l).attempt = none := by rw [State.line_setLine_self]; exact ha
      have hend : (s.setLine l x.enterFault).endAttempt l (Report.plain .fault x.requestSent) .fault =
          s.setLine l x.enterFault := by
        unfold State.endAttempt
        rw [hnone]
      have hline : { x.enterFault with attempt := none } = x.enterFault := by
        rw [show (none : Option Attempt) = x.enterFault.attempt from ha.symm]
      rw [hbreak hoff hf ht, hend, State.pend_eq, ← hline]
      rfl
    · have hx : x.enterFault.attempt = some a := ha
      rw [hbreak hoff hf ht, State.endAttempt_setLine hx, State.pend_eq, Line.requestSent_beq]
      rfl
  · rcases hno with h | h | h
    · exact (ite_congr rfl (fun _ => if_pos (.inl h)) fun _ => rfl).trans (ite_self s)
    · exact (ite_congr rfl (fun _ => if_pos (.inr h)) fun _ => rfl).trans (ite_self s)
    · exact if_neg (Nat.not_le.mpr h)
  · refine (if_pos ⟨hf, ht⟩).trans ?_
    rw [State.pend_eq]
    rfl
  · refine if_neg fun h => ?_
    rcases hno with hf | ht
    · exact hf h.1
    · exact absurd h.2 (Nat.not_le.mpr ht)

end Sys2Proof.Machine

/-! Characters sent and characters received (R18, R22 to R30, R33, R36, R39). -/

namespace Sys2Proof.Machine

/-! ### A character sent (R22, R23, R36) -/

theorem frame_resync : resyncFrame = frameOf 0xFF#8 0x3F#8 [] :=
  congrArg (fun c => frameOf 0xFF#8 c []) (rfl : controlByte false false fnResync = 0x3F#8)

theorem length_resyncFrame : resyncFrame.length = 5 := rfl

theorem Attempt.replyExpected_iff (a : Attempt) : a.replyExpected = true ↔ a.address ≠ 0xFF#8 := by
  simp [Attempt.replyExpected, broadcastAddr]

namespace State

variable {s : State} {l : LineId} {a : Attempt}

/-- CHARACTER_SENT in TX with the echo of the character at the position. -/
theorem txChar_matches (s : State) (l : LineId) (a : Attempt) {b : Byte} {m : Bool}
    (hb : b = byteAt a.frame (s.line l).txPos) (hm : m = ((s.line l).txPos == 0)) :
    s.txChar l a (.char b m true) =
      let y := (s.line l).echoed (.char b m true)
      if (s.line l).txPos + 1 < a.frame.length then s.setLine l y.nextChar
      else if a.replyExpected then s.setLine l y.enterWait
      else (s.setLine l y.startQuiet).endAttempt l (Report.bare .replyOk) .guard := by
  subst hb hm
  exact if_pos (echoMatches_self _ _)

/-- The end of the RESYNC (R36). -/
def resyncEnd (s : State) (l : LineId) (e : Echo) : State :=
  let z := { ((s.line l).echoed e).startQuiet with driver := false, txPos := 0, phase := .quiet }
  (s.setLine l (if z.quietOn then z else { z with st := .guard })).zeroSeq l

theorem resyncChar_matches (s : State) (l : LineId) {b : Byte} {m : Bool}
    (hb : b = byteAt resyncFrame (s.line l).txPos) (hm : m = ((s.line l).txPos == 0)) :
    s.resyncChar l (.char b m true) =
      if (s.line l).txPos + 1 < resyncFrame.length then s.setLine l ((s.line l).echoed (.char b m true)).nextChar
      else s.resyncEnd l (.char b m true) := by
  subst hb hm
  exact if_pos (echoMatches_self _ _)

theorem resyncChar_mismatch (s : State) (l : LineId) {e : Echo}
    (he : e ≠ .char (byteAt resyncFrame (s.line l).txPos) ((s.line l).txPos == 0) true) :
    s.resyncChar l e = s.setLine l
      { ((s.line l).echoed e).clashed e with driver := false, txPos := 0, phase := .clashed } := by
  refine if_neg ?_
  rw [show (s.line l).sending resyncFrame = byteAt resyncFrame (s.line l).txPos from rfl, echoMatches_ne he]
  exact nofun

/-- One change of every record of a list. -/
theorem foldl_modNode (f : Node → Node) {js : List NodeId} (hj : js.Nodup) (s : State) :
    js.foldl (fun t n => t.modNode n f) s = { s with nodes := (js.foldl (fun t n => t.modNode n f) s).nodes } ∧
      ∀ n, (js.foldl (fun t n => t.modNode n f) s).node n = if n ∈ js then (s.node n).map f else s.node n := by
  induction js generalizing s with
  | nil => exact ⟨rfl, fun n => by simp⟩
  | cons j js ih =>
    obtain ⟨hj, hjs⟩ := List.nodup_cons.mp hj
    obtain ⟨hframe, hnode⟩ := ih hjs (s.modNode j f)
    rw [List.foldl_cons]
    refine ⟨hframe, fun n => ?_⟩
    rw [hnode, State.modNode, State.node_setNode]
    by_cases e : j = n
    · subst e; simp [hj]
    · simp [e, Ne.symm e]

/-- The SEQ of every record of a line becomes 0 and nothing else changes (R56). -/
theorem zeroSeq_spec (s : State) (l : LineId) : s.zeroSeq l = { s with nodes := (s.zeroSeq l).nodes } ∧
    ∀ n, (s.zeroSeq l).node n = (s.node n).map fun r => if r.line = l then { r with seq := false } else r := by
  obtain ⟨hframe, hnode⟩ := State.foldl_modNode (fun r => if r.line = l then { r with seq := false } else r)
    (List.nodup_finRange 128) s
  exact ⟨hframe, fun n => (hnode n).trans (if_pos (List.mem_finRange n))⟩

end State

/-- The broadcast quiet timer at the end of a frame. -/
theorem Line.startQuiet_eq (y : Line) : y.startQuiet =
    { y with
      quietT := 0
      quietOn := if y.cfg.quietTime = 0 then false else true
      guardT := if y.cfg.quietTime = 0 then 0 else y.guardT } := by
  unfold Line.startQuiet
  split <;> rfl

/-- Settles O44: the characters of a request, of a broadcast and of the RESYNC. -/
theorem characterSentMatches : Obligations.CharacterSentMatches := by
  intro s l x second levels heard wire atOnce quiet
  have hquiet (y : Line) (hy : x.cfg.quietTime = y.cfg.quietTime) : y.startQuiet = quiet y := by
    rw [Line.startQuiet_eq, ← hy]
  refine ⟨fun a hst ha => ?_, fun hst hph => ?_⟩
  · intro b m
    have hsent : s.charSent l (.char b m true) = _ :=
      (State.charSent_tx hst ha (.char b m true)).trans (State.txChar_matches s l a rfl rfl)
    refine ⟨fun hlt => next_closing ?_, fun heq haddr => next_closing ?_, fun heq haddr => next_closing ?_⟩
    · rw [hsent]
      exact if_pos hlt
    · rw [hsent]
      exact (if_neg (Nat.not_lt.mpr heq.ge)).trans (if_pos ((Attempt.replyExpected_iff a).mpr haddr))
    · rw [hsent]
      refine (if_neg (Nat.not_lt.mpr heq.ge)).trans ((if_neg fun h => (Attempt.replyExpected_iff a).mp h haddr).trans ?_)
      exact congrArg (fun y => (s.setLine l y).endAttempt l (Report.plain .replyOk true) .guard) (hquiet (heard b m) rfl)
  · intro f b m
    have hf : resyncFrame = f := frame_resync
    have hsent : s.charSent l (.char b m true) = _ :=
      (State.charSent_sending hst hph (.char b m true)).trans (State.resyncChar_matches s l (by rw [hf]) rfl)
    refine ⟨fun hlt => next_closing ?_, fun heq => ?_, fun e he => next_closing ?_⟩
    · rw [hsent]
      exact if_pos (by rw [length_resyncFrame]; change x.txPos + 1 < 5; omega)
    · obtain ⟨hframe, hnode⟩ := State.zeroSeq_spec (s.setLine l
        { quiet (heard b m) with
          driver := false, txPos := 0, phase := .quiet, st := if atOnce then .guard else .starting }) l
      have hend : s.charSent l (.char b m true) = (s.setLine l
          { quiet (heard b m) with
            driver := false, txPos := 0, phase := .quiet, st := if atOnce then .guard else .starting }).zeroSeq l := by
        rw [hsent, if_neg (by rw [length_resyncFrame]; change ¬x.txPos + 1 < 5; omega), State.resyncEnd]
        have hy : ((s.line l).echoed (.char b m true)).startQuiet = quiet (heard b m) := hquiet (heard b m) rfl
        rw [hy]
        refine congrArg (fun y => (s.setLine l y).zeroSeq l) ?_
        by_cases h0 : x.cfg.quietTime = 0
        · simp [quiet, atOnce, h0]
        · have hst' : (heard b m).st = .starting := hst
          simp [quiet, atOnce, h0, hst']
      refine ⟨_, next_closing hend, hframe, hnode⟩
    · rw [State.charSent_sending hst hph, State.resyncChar_mismatch s l (by rw [hf]; exact he)]
      refine congrArg (s.setLine l) ?_
      rcases e with - | ⟨b, m, ok⟩
      · rfl
      · cases ok <;> rfl

/-! ### Characters that are no part of a reply (R18, R21, R29, R31, R33, R36, R39) -/

namespace State

variable {s : State} {l : LineId}

theorem startBitOn_sends (h : (s.line l).sendingNow = true) : s.startBitOn l = s := if_pos h

theorem receive_sends (h : (s.line l).sendingNow = true) (b : Byte) (last : CharEnd) : s.receive l b last = s := if_pos h

theorem missingStop_sends (h : (s.line l).sendingNow = true) : s.missingStop l = s := if_pos h

theorem startBitOn_off (h : (s.line l).sendingNow = false) (ho : (s.line l).st = .off) :
    s.startBitOn l = s.setLine l { s.line l with space := true } :=
  (if_neg (by rw [h]; exact nofun)).trans (if_pos ho)

theorem receive_off (h : (s.line l).sendingNow = false) (ho : (s.line l).st = .off) (b : Byte) (last : CharEnd) :
    s.receive l b last = s.setLine l { s.line l with space := !last.stopOk } :=
  (if_neg (by rw [h]; exact nofun)).trans (if_pos ho)

theorem missingStop_off (h : (s.line l).sendingNow = false) (ho : (s.line l).st = .off) :
    s.missingStop l = s.setLine l { s.line l with space := false } :=
  (if_neg (by rw [h]; exact nofun)).trans (if_pos ho)

theorem startBitOn_on (h : (s.line l).sendingNow = false) (ho : (s.line l).st ≠ .off) :
    s.startBitOn l = s.setLine l (s.line l).startBit :=
  (if_neg (by rw [h]; exact nofun)).trans (if_neg ho)

theorem receive_unstopped (h : (s.line l).sendingNow = false) (ho : (s.line l).st ≠ .off) (b : Byte) (m : Bool) :
    s.receive l b { mark := m, stopOk := false } = s.setLine l ((s.line l).unstopped b m).leavesIdle :=
  (if_neg (by rw [h]; exact nofun)).trans ((if_neg ho).trans (if_pos rfl))

/-- The states in which a whole character is discarded. -/
def Discards (x : Line) : Prop :=
  x.st = .idle ∨ x.st = .guard ∨ x.st = .settle ∨ x.st = .fault ∨ (x.st = .starting ∧ x.phase ≠ .sending)

theorem receive_discards (h : (s.line l).sendingNow = false) (hd : Discards (s.line l)) (b : Byte) (m : Bool) :
    s.receive l b { mark := m, stopOk := true } = s.setLine l ((s.line l).heard (markRun b m)).leavesIdle := by
  unfold State.receive
  rcases hd with hd | hd | hd | hd | ⟨hd, -⟩
  · simp [h, hd, State.modLine, Line.leavesIdle, Line.heard]
  all_goals simp [h, hd, Line.leavesIdle, Line.heard]

theorem missingStop_discards (h : (s.line l).sendingNow = false) (hd : Discards (s.line l)) :
    s.missingStop l = s.setLine l ((s.line l).heard 0).leavesIdle := by
  unfold State.missingStop
  rcases hd with hd | hd | hd | hd | ⟨hd, -⟩
  · simp [h, hd, State.modLine, Line.leavesIdle, Line.heard]
  all_goals simp [h, hd, Line.leavesIdle, Line.heard]

end State

theorem Line.cutEnds_released {x : Line} (h : x.driver = false) (e : Echo) : x.cutEnds e = x := if_pos h

theorem Line.cutEnds_off {x : Line} (h : x.driver = true) (ho : x.st = .off) (e : Echo) :
    x.cutEnds e = { x with driver := false, space := echoLow e } :=
  (if_neg (by rw [h]; exact nofun)).trans (if_pos ho)

theorem Line.cutEnds_on {x : Line} (h : x.driver = true) (ho : x.st ≠ .off) (e : Echo) :
    x.cutEnds e = { x.echoed e with driver := false } :=
  (if_neg (by rw [h]; exact nofun)).trans (if_neg ho)

theorem State.setLine_line (s : State) (l : LineId) : s.setLine l (s.line l) = s := by simp [State.setLine, State.line]

/-- Settles O40: a line that sends, a line in OFF, the end of a cut character, and the discarded characters. -/
theorem unsolicitedCharacters : Obligations.UnsolicitedCharacters := by
  intro s l b m x run low sends next
  have hsends : sends ↔ x.sendingNow = true := (Line.sendingNow_iff x).symm
  have hquiet (h : ¬sends) : x.sendingNow = false := Bool.eq_false_iff.mpr fun hs => h (hsends.mpr hs)
  refine ⟨fun h => ⟨next_closing ?_, next_closing ?_, fun last => next_closing ?_⟩, fun ho h => ?_,
    fun ho h e => next_closing ?_, fun ho h => ?_, fun hst hp h => ?_, fun ho h => ⟨next_closing ?_, next_closing ?_⟩,
    fun hd h => ⟨next_closing ?_, next_closing ?_⟩⟩
  · exact State.startBitOn_sends (hsends.mp h)
  · exact State.missingStop_sends (hsends.mp h)
  · exact State.receive_sends (hsends.mp h) b last
  · intro wire
    exact ⟨next_closing (State.startBitOn_off (hquiet h) ho), next_closing (State.missingStop_off (hquiet h) ho),
      fun last => next_closing (State.receive_off (hquiet h) ho b last)⟩
  · rw [State.charSent_cut ho, Line.cutEnds_released h, State.setLine_line]
  · intro ends
    have hsent (e : Echo) : s.charSent l e = s.setLine l { x with driver := false, space := echoLow e } := by
      rw [State.charSent_cut (.inl ho), Line.cutEnds_off h ho]
    exact ⟨next_closing (hsent .silence), fun stop => next_closing (hsent (.char b m stop))⟩
  · intro second
    have hsent (e : Echo) : s.charSent l e = s.setLine l { x.echoed e with driver := false } := by
      rw [State.charSent_cut (.inr ⟨hst, hp⟩), Line.cutEnds_on h (by rw [hst]; exact nofun)]
    exact ⟨next_closing (hsent .silence), next_closing (hsent (.char b m true)), next_closing (hsent (.char b m false))⟩
  · exact State.startBitOn_on (hquiet h) ho
  · exact State.receive_unstopped (hquiet h) ho b m
  · exact State.receive_discards (hquiet h) hd b m
  · exact State.missingStop_discards (hquiet h) hd

/-! ### Characters of a reply (R24 to R28, R30) -/

theorem State.waitChar_eq (s : State) (l : LineId) (a : Attempt) (b : Byte) (m : Bool) {x : Line} :
    (s.setLine l x).waitChar l a b m =
      if m = true ∧ b = a.address ∧ x.respT - 11 ≤ a.respLimit.getD 0 then
        s.setLine l { x with st := .rx, rxBuf := [b], rxCount := 1, respT := x.respT - 11, turn := x.sinceSent - 11,
                             foreign := false }
      else if a.respLimit.getD 0 ≤ x.respT then (s.setLine l x).endAttempt l (Report.plain .timeout true) .guard
      else if m = true then s.setLine l { x with foreign := true }
      else s.setLine l x := by
  unfold State.waitChar
  rw [State.line_setLine_self]
  simp only [State.setLine_setLine]
  refine if_congr ?_ rfl (if_congr .rfl rfl (if_congr .rfl rfl rfl))
  rw [Bool.and_eq_true, Bool.and_eq_true, beq_iff_eq, decide_eq_true_eq, and_assoc]
  rfl

theorem State.rxChar_marked (s : State) (l : LineId) (a : Attempt) (b : Byte) {x : Line} :
    (s.setLine l x).rxChar l a b true = s.setLine l
      (if b = a.address then { x with rxBuf := [b], rxCount := 1, turn := x.sinceSent - 11 }
      else { x with st := .wait, rxBuf := [], rxCount := 0, foreign := true }) := by
  unfold State.rxChar
  rw [State.line_setLine_self]
  simp only [State.setLine_setLine, if_true]
  split <;> rfl

theorem State.rxChar_unmarked (s : State) (l : LineId) (a : Attempt) (b : Byte) {x : Line} :
    (s.setLine l x).rxChar l a b false =
      let buf := rxStore x.rxBuf x.rxCount b
      if rxComplete buf (x.rxCount + 1) then (s.setLine l x).frameDone l a buf
      else s.setLine l { x with rxBuf := buf, rxCount := x.rxCount + 1 } := by
  unfold State.rxChar
  rw [State.line_setLine_self]
  simp only [State.setLine_setLine, Bool.false_eq_true, if_false]

theorem State.frameDone_eq (s : State) (l : LineId) (a : Attempt) (buf : List Byte) {x : Line} :
    (s.setLine l x).frameDone l a buf =
      let reply := fun o : Outcome =>
        ({ outcome := o, code := byteAt buf 1 &&& 0x3F#8, data := bytesAt buf 3 (byteAt buf 2).toNat
           turn := min 65535 x.turn, sent := true } : Report)
      match classify a buf with
      | .stale => s.setLine l { x with st := .wait, rxBuf := [], rxCount := 0, foreign := false }
      | .checkError => (s.setLine l x).endAttempt l (Report.plain .checkError true) .guard
      | .replyOk => (s.setLine l x).endAttempt l (reply .replyOk) .guard
      | .replyReject => (s.setLine l x).endAttempt l (reply .replyReject) .guard
      | .replyBusy => (s.setLine l x).endAttempt l (reply .replyBusy) .guard := by
  unfold State.frameDone
  rw [State.line_setLine_self]
  cases classify a buf with
  | stale => rw [State.modLine, State.line_setLine_self, State.setLine_setLine]
  | _ => rfl

/-- Settles O41: a character in WAIT, and the marked and unmarked ones in RX. -/
theorem charactersOfAReply : Obligations.CharactersOfAReply := by
  intro s l a b m ha y run x n buf len limit whole low
  refine ⟨fun hst => next_closing ?_, fun hst => next_closing ?_, fun hst hm => next_closing ?_,
    fun hst hm hn => next_closing ?_, fun hst hm h3 hn => ?_⟩
  · rw [State.receive_reply hst b { mark := m, stopOk := false } rfl]
    refine congrArg (s.setLine l) ?_
    have hne : y.st ≠ .idle := by rcases hst with h | h <;> rw [h] <;> exact nofun
    exact congrArg (fun st => { y.unstopped b m with st := st }) (if_neg hne)
  · rw [State.receive_wait hst ha]
    exact State.waitChar_eq s l a b m
  · subst hm
    rw [State.receive_rx hst ha]
    exact State.rxChar_marked s l a b
  · subst hm
    rw [State.receive_rx hst ha]
    refine (State.rxChar_unmarked s l a b).trans (if_neg ?_)
    refine fun hc => ?_
    have hc' : 3 ≤ n + 1 ∧ n + 1 = len + 5 := of_decide_eq_true hc
    omega
  · intro reply
    refine next_closing ?_
    subst hm
    rw [State.receive_rx hst ha]
    have hc : rxComplete buf (n + 1) = true := decide_eq_true ⟨h3, hn⟩
    exact (State.rxChar_unmarked s l a b).trans ((if_pos hc).trans (State.frameDone_eq s l a buf))

end Sys2Proof.Machine

/-! The candidates of a line and the scheduler's choice (chapter 5). -/

namespace Sys2Proof.Machine

/-! ### The candidates (R95 to R99) -/

/-- A record is in service. -/
def Node.Serves (r : Node) : Prop := r.health = .unknown ∨ r.health = .online ∨ r.health = .suspect

/-- New polls and probes are offered on a line (R99). -/
def State.OffersNew (s : State) (l : LineId) : Prop := s.ctl = .running ∧ (s.line l).stopRequested = false

/-- A record's probe is due (R58). -/
def State.ProbeDue (s : State) (r : Node) : Prop :=
  r.probeDue = true ∨ ∃ t, r.nextProbe = some t ∧ msReached s.ms t = true

/-- A record's probe has waited a probe interval of the line (R98). -/
def State.Promoted (s : State) (l : LineId) (r : Node) : Prop :=
  r.promoted = true ∨ ∃ t, r.nextProbe = some t ∧ msReached s.ms (t + BitVec.ofNat 32 (s.line l).cfg.probeIval) = true

/-- A record offers its probe to the line (R98, R99). -/
def State.Probes (s : State) (l : LineId) (n : NodeId) (r : Node) : Prop :=
  s.node n = some r ∧ r.line = l ∧ r.health = .offline ∧ s.ProbeDue r ∧
    (∀ a, (s.line l).attempt = some a → a.owner ≠ .probe n) ∧ s.OffersNew l

/-- No transaction with the record's key is ACTIVE (R97). -/
def State.NoneActive (s : State) (r : Node) : Prop :=
  ∀ i x t, s.slot i = some x → x.txn = some t → x.st = .active →
    ¬(t.kind = .exchange ∧ t.line = r.line ∧ t.address = r.address)

namespace State

variable {s : State} {l : LineId} {c : Cand}

theorem offersNew_iff (s : State) (l : LineId) : s.offersNew l = true ↔ s.OffersNew l := by
  simp [State.offersNew, State.OffersNew]

theorem probeIsDue_iff (s : State) (r : Node) : s.probeIsDue r = true ↔ s.ProbeDue r := by
  unfold State.probeIsDue State.ProbeDue
  cases r.nextProbe <;> simp

theorem probeIsPromoted_iff {r : Node} (hl : r.line = l) : s.probeIsPromoted r = true ↔ s.Promoted l r := by
  unfold State.probeIsPromoted State.Promoted
  rw [hl]
  cases r.nextProbe <;> simp

theorem probing_iff (s : State) (l : LineId) (n : NodeId) :
    s.probing l n = false ↔ ∀ a, (s.line l).attempt = some a → a.owner ≠ .probe n := by
  unfold State.probing
  cases (s.line l).attempt <;> simp

theorem nodeActive_iff (s : State) (r : Node) : s.nodeActive r = false ↔ s.NoneActive r := by
  unfold State.nodeActive State.NoneActive
  rw [List.any_eq_false]
  refine ⟨fun h i x t hx ht hst hk => h i (mem_allSlots i) ?_, fun h i _ => ?_⟩
  · rcases x with ⟨xst, q, cls, tag, txn, se⟩
    cases ht
    cases hst
    simp [hx, hk]
  · split
    · next q cls tag t se hx => simpa [and_assoc] using h i _ t hx rfl rfl
    · exact nofun

theorem headCand_iff (s : State) (place : Nat) (i : SlotId) : s.headCand place i = some c ↔
    ∃ x, s.slot i = some x ∧ x.st = .pending ∧ c = { cls := x.cls.serviceClass, place := place, work := .txn i } := by
  unfold State.headCand
  cases s.slot i with
  | none => simp
  | some x => simp [eq_comm]

theorem lineListCand_iff (s : State) (l : LineId) : s.lineListCand l = some c ↔
    ∃ i rest x, (s.sched l).lineList = i :: rest ∧ s.slot i = some x ∧ x.st = .pending ∧
      c = { cls := x.cls.serviceClass, place := 0, work := .txn i } := by
  unfold State.lineListCand
  cases (s.sched l).lineList with
  | nil => simp
  | cons i rest => simp [State.headCand_iff]

theorem hostCand_iff (s : State) (l : LineId) (n : NodeId) : s.hostCand l n = some c ↔
    ∃ r i rest x, s.node n = some r ∧ r.line = l ∧ r.pendingList = i :: rest ∧ r.Serves ∧ r.holdOffEnd = none ∧
      (r.openX = none ∨ r.openX = some (.slot i)) ∧ s.slot i = some x ∧ x.st = .pending ∧
      c = { cls := x.cls.serviceClass, place := n.val + 1, work := .txn i } := by
  unfold State.hostCand
  cases s.node n with
  | none => simp
  | some r =>
    dsimp only
    obtain hp | ⟨i, rest, hp⟩ : r.pendingList = [] ∨ ∃ i rest, r.pendingList = i :: rest := by
      cases r.pendingList <;> simp
    · rw [hp]
      simp [hp]
    · rw [hp]
      dsimp only
      split
      · next h =>
        obtain ⟨hl, hs, hh, ho⟩ := h
        have hs' : r.Serves := (Health.inService_iff _).mp hs
        simp [State.headCand_iff, hp, hl, hs', hh, ho, placeOfNode]
      · next h =>
        refine ⟨nofun, ?_⟩
        rintro ⟨r', i', rest', x, hr, hl, hp', hs, hh, ho, -⟩
        cases hr
        cases hp.symm.trans hp'
        exact absurd ⟨hl, (Health.inService_iff _).mpr hs, hh, ho⟩ h

theorem pollCand_iff (s : State) (l : LineId) (p : PollId) : s.pollCand l p = some c ↔
    ∃ e r, s.poll p = some e ∧ s.node e.node = some r ∧ r.line = l ∧
      (e.inst ≠ none ∧ e.running = false ∧ r.openX = some (.poll p) ∧
          c = { cls := 2, place := 65 * e.node.val + p.val + 1, work := .pollAgain p } ∨
       e.inst = none ∧ e.st = .active ∧ e.due = true ∧ e.removal = false ∧ r.Serves ∧ r.holdOffEnd = none ∧
          r.openX = none ∧ s.NoneActive r ∧ s.OffersNew l ∧
          c = { cls := 2, place := 65 * e.node.val + p.val + 1, work := .pollNew p }) := by
  unfold State.pollCand
  cases s.poll p with
  | none => simp
  | some e =>
    dsimp only
    cases hn : s.node e.node with
    | none => simp [hn]
    | some r =>
      dsimp only
      by_cases hl : r.line = l
      · rw [if_neg (not_not.mpr hl)]
        cases hi : e.inst with
        | none =>
          rw [if_neg (by exact nofun)]
          constructor
          · intro h
            split at h
            · next hc =>
              obtain ⟨h1, h2, h3, h4, h5, h6, h7, h8⟩ := hc
              cases h
              exact ⟨e, r, rfl, hn, hl, .inr ⟨hi, h1, h2, h3, (Health.inService_iff _).mp h4, h5, h6, (s.nodeActive_iff r).mp h7,
                (s.offersNew_iff l).mp h8, rfl⟩⟩
            · cases h
          · rintro ⟨e', r', he, hn', -, ⟨hi', -⟩ | ⟨-, h1, h2, h3, h4, h5, h6, h7, h8, rfl⟩⟩
            · cases he
              exact absurd hi hi'
            · cases he
              cases hn.symm.trans hn'
              exact if_pos ⟨h1, h2, h3, (Health.inService_iff _).mpr h4, h5, h6, (s.nodeActive_iff r).mpr h7,
                (s.offersNew_iff l).mpr h8⟩
        | some k =>
          rw [if_pos (by rfl)]
          constructor
          · intro h
            split at h
            · next hc =>
              cases h
              exact ⟨e, r, rfl, hn, hl, .inl ⟨by rw [hi]; exact nofun, hc.1, hc.2, rfl⟩⟩
            · cases h
          · rintro ⟨e', r', he, hn', -, ⟨-, h1, h2, rfl⟩ | ⟨hi', -⟩⟩
            · cases he
              cases hn.symm.trans hn'
              exact if_pos ⟨h1, h2⟩
            · cases he
              cases hi.symm.trans hi'
      · rw [if_pos hl]
        refine ⟨nofun, ?_⟩
        rintro ⟨e', r', he, hn', hl', -⟩
        cases he
        cases hn.symm.trans hn'
        exact absurd hl' hl

theorem probeCand_iff (s : State) (l : LineId) (n : NodeId) : s.probeCand l n = some c ↔
    ∃ r, s.Probes l n r ∧
      (s.Promoted l r ∧ c = { cls := 2, place := 65 * n.val, work := .probe n } ∨
       ¬s.Promoted l r ∧ c = { cls := 4, place := n.val, work := .probe n }) := by
  unfold State.probeCand
  cases hn : s.node n with
  | none => simp [State.Probes, hn]
  | some r =>
    dsimp only
    have hprobes (r' : Node) : s.Probes l n r' ↔ r = r' ∧ (r.line = l ∧ r.health = .offline ∧ s.probeIsDue r = true ∧
        s.probing l n = false ∧ s.offersNew l = true) := by
      rw [State.probeIsDue_iff, State.probing_iff, State.offersNew_iff, State.Probes, hn, Option.some.injEq]
      constructor
      · rintro ⟨rfl, h⟩
        exact ⟨rfl, h⟩
      · rintro ⟨rfl, h⟩
        exact ⟨rfl, h⟩
    simp only [hprobes]
    split
    · next h =>
      have hp := s.probeIsPromoted_iff (r := r) h.1
      by_cases hpr : s.Promoted l r
      · rw [if_pos (hp.mpr hpr)]
        simp [h, hpr, placeOfPair, eq_comm]
      · rw [if_neg (hpr ∘ hp.mp)]
        simp [h, hpr, eq_comm]
    · next h => simp [h]

/-- The candidates of a line. -/
theorem mem_candidates (s : State) (l : LineId) (c : Cand) : c ∈ s.candidates l ↔
    s.lineListCand l = some c ∨ (∃ n, s.hostCand l n = some c) ∨ (∃ p, s.pollCand l p = some c) ∨
      ∃ n, s.probeCand l n = some c := by
  simp only [State.candidates, List.mem_append, Option.mem_toList, List.mem_filterMap, mem_allNodes, mem_allPolls,
    true_and, or_assoc]

/-- A candidate has one of the four classes. -/
theorem cls_of_mem (h : c ∈ s.candidates l) : c.cls = 1 ∨ c.cls = 2 ∨ c.cls = 3 ∨ c.cls = 4 := by
  have service (x : Slot) : x.cls.serviceClass = 1 ∨ x.cls.serviceClass = 3 := by cases x.cls <;> simp [SqClass.serviceClass]
  rcases (s.mem_candidates l c).mp h with h | ⟨n, h⟩ | ⟨p, h⟩ | ⟨n, h⟩
  · obtain ⟨i, rest, x, -, -, -, rfl⟩ := (s.lineListCand_iff l).mp h
    have := service x
    tauto
  · obtain ⟨r, i, rest, x, -, -, -, -, -, -, -, -, rfl⟩ := (s.hostCand_iff l n).mp h
    have := service x
    tauto
  · obtain ⟨e, r, -, -, -, ⟨-, -, -, rfl⟩ | ⟨-, -, -, -, -, -, -, -, -, rfl⟩⟩ := (s.pollCand_iff l p).mp h <;>
      exact .inr (.inl rfl)
  · obtain ⟨r, -, ⟨-, rfl⟩ | ⟨-, rfl⟩⟩ := (s.probeCand_iff l n).mp h
    · exact .inr (.inl rfl)
    · exact .inr (.inr (.inr rfl))

/-! ### The choice (R100 to R102) -/

/-- How far a candidate lies past the position of its class. -/
def past (s : State) (l : LineId) (c : Cand) : Nat := ringRank (ringOf c.cls) ((s.sched l).posOf c.cls) c.place

/-- The first candidate of a class after its position. -/
def pick (s : State) (l : LineId) (k : Nat) : Option Cand :=
  pickMin (fun c => ringRank (ringOf k) ((s.sched l).posOf k) c.place) ((s.candidates l).filter (·.cls == k))

theorem choose_eq (s : State) (l : LineId) :
    s.choose l = (s.pick l 1).or ((s.pick l 2).or ((s.pick l 3).or (s.pick l 4))) := rfl

theorem pick_some {k : Nat} (h : s.pick l k = some c) :
    c ∈ s.candidates l ∧ c.cls = k ∧ ∀ d ∈ s.candidates l, d.cls = k → s.past l c ≤ s.past l d := by
  obtain ⟨hm, hle⟩ := pickMin_some h
  obtain ⟨hc, hk⟩ := List.mem_filter.mp hm
  have hk : c.cls = k := beq_iff_eq.mp hk
  refine ⟨hc, hk, fun d hd hdk => ?_⟩
  have := hle d (List.mem_filter.mpr ⟨hd, beq_iff_eq.mpr hdk⟩)
  rwa [State.past, State.past, hk, hdk]

theorem pick_none {k : Nat} : s.pick l k = none ↔ ∀ d ∈ s.candidates l, d.cls ≠ k := by
  refine ⟨fun h d hd hk => ?_, fun h => ?_⟩
  · have hm : d ∈ (s.candidates l).filter (·.cls == k) := List.mem_filter.mpr ⟨hd, beq_iff_eq.mpr hk⟩
    rw [pickMin_none h] at hm
    cases hm
  · cases hp : s.pick l k with
    | none => rfl
    | some c => exact absurd (State.pick_some hp).2.1 (h c (State.pick_some hp).1)

theorem choose_none : s.choose l = none ↔ s.candidates l = [] := by
  rw [State.choose_eq, Option.or_eq_none_iff, Option.or_eq_none_iff, Option.or_eq_none_iff, State.pick_none, State.pick_none,
    State.pick_none, State.pick_none, List.eq_nil_iff_forall_not_mem]
  refine ⟨fun ⟨h1, h2, h3, h4⟩ c hc => ?_, fun h => ⟨fun c hc => absurd hc (h c), fun c hc => absurd hc (h c),
    fun c hc => absurd hc (h c), fun c hc => absurd hc (h c)⟩⟩
  rcases State.cls_of_mem hc with e | e | e | e
  · exact h1 c hc e
  · exact h2 c hc e
  · exact h3 c hc e
  · exact h4 c hc e

/-- The choice is of the lowest class that has a candidate, and the first of it after the class's position. -/
theorem choose_some (h : s.choose l = some c) : c ∈ s.candidates l ∧
    ∀ d ∈ s.candidates l, c.cls ≤ d.cls ∧ (d.cls = c.cls → s.past l c ≤ s.past l d) := by
  have least {k : Nat} (hk : s.pick l k = some c) (hlow : ∀ d ∈ s.candidates l, k ≤ d.cls) : c ∈ s.candidates l ∧
      ∀ d ∈ s.candidates l, c.cls ≤ d.cls ∧ (d.cls = c.cls → s.past l c ≤ s.past l d) := by
    obtain ⟨hc, rfl, hle⟩ := State.pick_some hk
    exact ⟨hc, fun d hd => ⟨hlow d hd, fun e => hle d hd e⟩⟩
  rw [State.choose_eq, Option.or_eq_some_iff, Option.or_eq_some_iff, Option.or_eq_some_iff] at h
  rcases h with h | ⟨h1, h | ⟨h2, h | ⟨h3, h⟩⟩⟩
  · exact least h fun d hd => by have := State.cls_of_mem hd; omega
  · exact least h fun d hd => by
      have := State.cls_of_mem hd
      have := State.pick_none.mp h1 d hd
      omega
  · exact least h fun d hd => by
      have := State.cls_of_mem hd
      have := State.pick_none.mp h1 d hd
      have := State.pick_none.mp h2 d hd
      omega
  · exact least h fun d hd => by
      have := State.cls_of_mem hd
      have := State.pick_none.mp h1 d hd
      have := State.pick_none.mp h2 d hd
      have := State.pick_none.mp h3 d hd
      omega

/-! ### Promotion (R98) -/

/-- The probe of a node is a candidate of class 2. -/
def Picks (s : State) (l : LineId) (n : NodeId) : Prop := ∃ c, s.probeCand l n = some c ∧ c.cls = 2

theorem picks_iff {n : NodeId} {r : Node} (hn : s.node n = some r) :
    s.Picks l n ↔ s.Probes l n r ∧ s.Promoted l r := by
  unfold State.Picks
  constructor
  · rintro ⟨c, hc, h2⟩
    obtain ⟨q, hq, ⟨hp, rfl⟩ | ⟨-, rfl⟩⟩ := (s.probeCand_iff l n).mp hc
    · cases hn.symm.trans hq.1
      exact ⟨hq, hp⟩
    · cases h2
  · rintro ⟨hq, hp⟩
    exact ⟨_, (s.probeCand_iff l n).mpr ⟨r, hq, .inl ⟨hp, rfl⟩⟩, rfl⟩

end State

/-- The record of a probe that a choice finds promoted (R98). -/
def Node.promotes (r : Node) : Node := { r with probeDue := true, promoted := true }

namespace State

variable {s : State} {l : LineId}

/-- A probe's candidate is told by its own record. -/
theorem probeCand_congr {t : State} (ht : t = { s with nodes := t.nodes }) {n : NodeId} (hn : t.node n = s.node n) :
    t.probeCand l n = s.probeCand l n := by
  generalize t.nodes = N at ht
  subst ht
  unfold State.probeCand
  rw [hn]
  rfl

theorem promoteNode_spec (s : State) (l : LineId) (j : NodeId) :
    s.promoteNode l j = { s with nodes := (s.promoteNode l j).nodes } ∧
      (s.Picks l j → (s.promoteNode l j).node j = (s.node j).map Node.promotes) ∧
      (¬s.Picks l j → (s.promoteNode l j).node j = s.node j) ∧
      ∀ n, n ≠ j → (s.promoteNode l j).node n = s.node n := by
  unfold State.promoteNode
  cases hc : s.probeCand l j with
  | none =>
    refine ⟨rfl, fun ⟨c, h, _⟩ => ?_, fun _ => rfl, fun _ _ => rfl⟩
    rw [hc] at h
    cases h
  | some c =>
    dsimp only
    split
    · next h2 =>
      refine ⟨rfl, fun _ => State.node_setNode_self _ _ _, fun h => absurd ⟨c, hc, h2⟩ h, fun n hn => ?_⟩
      exact State.node_setNode_ne _ hn.symm _
    · next h2 =>
      refine ⟨rfl, fun ⟨d, hd, hd2⟩ => ?_, fun _ => rfl, fun _ _ => rfl⟩
      cases hc.symm.trans hd
      exact absurd hd2 h2

theorem picks_congr {t : State} (ht : t = { s with nodes := t.nodes }) {n : NodeId} (hn : t.node n = s.node n) :
    t.Picks l n ↔ s.Picks l n := by
  unfold State.Picks
  rw [State.probeCand_congr ht hn]

theorem foldl_promoteNode {js : List NodeId} (hj : js.Nodup) (s : State) (l : LineId) :
    let u := js.foldl (fun t n => t.promoteNode l n) s
    u = { s with nodes := u.nodes } ∧
      ∀ n, (n ∈ js → s.Picks l n → u.node n = (s.node n).map Node.promotes) ∧
        (n ∉ js ∨ ¬s.Picks l n → u.node n = s.node n) := by
  induction js generalizing s with
  | nil => exact ⟨rfl, fun n => ⟨nofun, fun _ => rfl⟩⟩
  | cons j js ih =>
    obtain ⟨hj, hjs⟩ := List.nodup_cons.mp hj
    obtain ⟨hframe, hpick, hno, hne⟩ := s.promoteNode_spec l j
    obtain ⟨hframe', hnode⟩ := ih hjs (s.promoteNode l j)
    rw [List.foldl_cons]
    refine ⟨by rw [hframe', hframe], fun n => ?_⟩
    by_cases e : n = j
    · subst e
      have hrest := (hnode n).2 (.inl hj)
      refine ⟨fun _ hp => hrest.trans (hpick hp), fun h => hrest.trans (hno ?_)⟩
      exact h.resolve_left fun h => h List.mem_cons_self
    · have hn := hne n e
      have hp := State.picks_congr (l := l) hframe hn
      have hm : n ∈ j :: js ↔ n ∈ js := by simp [e]
      rw [hm, ← hp, ← hn]
      exact hnode n

theorem promote_spec (s : State) (l : LineId) : s.promote l = { s with nodes := (s.promote l).nodes } ∧
    ∀ n, (s.Picks l n → (s.promote l).node n = (s.node n).map Node.promotes) ∧
      (¬s.Picks l n → (s.promote l).node n = s.node n) := by
  obtain ⟨hframe, hnode⟩ := State.foldl_promoteNode (List.nodup_finRange 128) s l
  exact ⟨hframe, fun n => ⟨(hnode n).1 (mem_allNodes n), fun h => (hnode n).2 (.inr h)⟩⟩

/-- The mark of promoted probes changes no candidate. -/
theorem candidates_promote (s : State) (l : LineId) : (s.promote l).candidates l = s.candidates l := by
  obtain ⟨hframe, hnode⟩ := s.promote_spec l
  generalize (s.promote l).nodes = N at hframe
  rw [hframe] at hnode ⊢
  have hcase (n : NodeId) : ({ s with nodes := N } : State).node n = s.node n ∨
      (s.Picks l n ∧ ({ s with nodes := N } : State).node n = (s.node n).map Node.promotes) := by
    by_cases h : s.Picks l n
    · exact .inr ⟨h, (hnode n).1 h⟩
    · exact .inl ((hnode n).2 h)
  have host (n : NodeId) : ({ s with nodes := N } : State).hostCand l n = s.hostCand l n := by
    unfold State.hostCand
    rcases hcase n with h | ⟨-, h⟩
    · rw [h]; rfl
    · rw [h]
      cases s.node n <;> rfl
  have poll (p : PollId) : ({ s with nodes := N } : State).pollCand l p = s.pollCand l p := by
    unfold State.pollCand
    change (match s.poll p with | none => _ | some e => _) = _
    cases s.poll p with
    | none => rfl
    | some e =>
      dsimp only
      rcases hcase e.node with h | ⟨-, h⟩
      · rw [h]; rfl
      · rw [h]
        cases s.node e.node <;> rfl
  have probe (n : NodeId) : ({ s with nodes := N } : State).probeCand l n = s.probeCand l n := by
    rcases hcase n with h | ⟨⟨c, hc, h2⟩, h⟩
    · exact State.probeCand_congr rfl h
    · obtain ⟨r, ⟨hr, hl, hoff, hdue, hno, hnew⟩, ⟨hp, rfl⟩ | ⟨-, rfl⟩⟩ := (s.probeCand_iff l n).mp hc
      · rw [hc, State.probeCand_iff]
        refine ⟨r.promotes, ⟨by rw [h, hr]; rfl, hl, hoff, .inl rfl, hno, hnew⟩, .inl ⟨.inl rfl, rfl⟩⟩
      · cases h2
  unfold State.candidates
  rw [List.filterMap_congr fun n _ => host n, List.filterMap_congr fun p _ => poll p, List.filterMap_congr fun n _ => probe n]
  rfl

theorem choose_promote (s : State) (l : LineId) : (s.promote l).choose l = s.choose l := by
  have hsched : (s.promote l).sched l = s.sched l := by
    have hframe := (s.promote_spec l).1
    generalize (s.promote l).nodes = N at hframe
    rw [hframe]
    rfl
  unfold State.choose
  rw [State.candidates_promote, hsched]

/-- SCHEDULER_CHOICE on a line that can be given work (R99, R103). -/
theorem schedule_eq (hst : (s.line l).st = .idle) (hw : s.ctl = .running ∨ s.ctl = .draining) : s.schedule l =
    match s.choose l with
    | some c => (s.promote l).handOver l c
    | none => s.promote l := by
  have h : (s.working && (s.line l).st == .idle) = true := by
    rcases hw with hw | hw <;> simp [State.working, hw, hst]
  have hc := s.choose_promote l
  rw [State.schedule, if_pos h]
  dsimp only
  revert hc
  generalize s.promote l = t
  generalize t.choose l = o
  rintro rfl
  cases s.choose l <;> rfl

theorem schedule_nothing (h : (s.line l).st ≠ .idle ∨ (s.ctl ≠ .running ∧ s.ctl ≠ .draining)) : s.schedule l = s := by
  refine if_neg ?_
  rcases h with h | ⟨h1, h2⟩
  · simp [h]
  · simp [State.working, h1, h2]

end State

/-- Settles O38: the candidates source by source; the choice; promotion; nothing new without an offer. -/
theorem schedulerOrder : Obligations.SchedulerOrder := by
  intro s l serves clsOf offered due promoted probes at1 past
  have hpast (c : Cand) (hc : c ∈ s.candidates l) : past c = s.past l c := by
    obtain ⟨cls, place, work⟩ := c
    rcases State.cls_of_mem hc with e | e | e | e <;> cases e <;> rfl
  refine ⟨fun c => ?_, State.choose_none, fun c h => ?_, fun h => ?_, fun hst hw => ?_, (s.promote_spec l).1, fun n r hn => ?_,
    fun n hn => ?_, fun h c hc => ?_⟩
  · rw [State.mem_candidates, State.lineListCand_iff]
    refine or_congr .rfl (or_congr ?_ (or_congr ?_ ?_))
    · exact exists_congr fun n => s.hostCand_iff l n
    · exact exists_congr fun p => s.pollCand_iff l p
    · constructor
      · rintro ⟨n, h⟩
        obtain ⟨r, hr⟩ := (s.probeCand_iff l n).mp h
        exact ⟨n, r, hr⟩
      · rintro ⟨n, r, hr⟩
        exact ⟨n, (s.probeCand_iff l n).mpr ⟨r, hr⟩⟩
  · obtain ⟨hc, hle⟩ := State.choose_some h
    refine ⟨hc, fun d hd => ⟨(hle d hd).1, fun e => ?_⟩⟩
    rw [hpast c hc, hpast d hd]
    exact (hle d hd).2 e
  · exact congrArg Host.Outcome.next (State.schedule_nothing h)
  · exact congrArg Host.Outcome.next (State.schedule_eq hst hw)
  · have hp : probes n r ∧ promoted r ↔ s.Picks l n := (State.picks_iff hn).symm
    rw [hp]
    refine ⟨fun h => (((s.promote_spec l).2 n).1 h).trans ?_, fun h => (((s.promote_spec l).2 n).2 h).trans hn⟩
    rw [hn]
    rfl
  · by_cases h : s.Picks l n
    · rw [((s.promote_spec l).2 n).1 h, hn]
      rfl
    · rw [((s.promote_spec l).2 n).2 h, hn]
  · have hno : ¬s.OffersNew l := fun ⟨hrun, hstop⟩ => by
      rcases h with h | h
      · exact h hrun
      · exact Bool.false_ne_true (hstop.symm.trans h)
    rcases (s.mem_candidates l c).mp hc with h | ⟨n, h⟩ | ⟨p, h⟩ | ⟨n, h⟩
    · obtain ⟨i, rest, x, -, -, -, rfl⟩ := (s.lineListCand_iff l).mp h
      exact ⟨nofun, nofun⟩
    · obtain ⟨r, i, rest, x, -, -, -, -, -, -, -, -, rfl⟩ := (s.hostCand_iff l n).mp h
      exact ⟨nofun, nofun⟩
    · obtain ⟨e, r, -, -, -, ⟨-, -, -, rfl⟩ | ⟨-, -, -, -, -, -, -, -, hnew, -⟩⟩ := (s.pollCand_iff l p).mp h
      · exact ⟨nofun, nofun⟩
      · exact absurd hnew hno
    · obtain ⟨r, hr, -⟩ := (s.probeCand_iff l n).mp h
      obtain ⟨-, -, -, -, -, hnew⟩ := hr
      exact absurd hnew hno

end Sys2Proof.Machine

/-! The hand-over of the scheduler's choice (R19, R75, R102, R103, R111). -/

namespace Sys2Proof.Machine

/-! ### The class of the work that is handed over -/

/-- The classes that a piece of work can have (R95 to R98). -/
def Work.Class (w : Work) (k : Nat) : Prop :=
  match w with
  | .txn _ => k = 1 ∨ k = 3
  | .pollNew _ => k = 2
  | .pollAgain _ => k = 2
  | .probe _ => k = 2 ∨ k = 4

theorem State.class_of_mem {s : State} {l : LineId} {c : Cand} (h : c ∈ s.candidates l) : c.work.Class c.cls := by
  have service (x : Slot) : x.cls.serviceClass = 1 ∨ x.cls.serviceClass = 3 := by cases x.cls <;> simp [SqClass.serviceClass]
  rcases (s.mem_candidates l c).mp h with h | ⟨n, h⟩ | ⟨p, h⟩ | ⟨n, h⟩
  · obtain ⟨i, rest, x, -, -, -, rfl⟩ := (s.lineListCand_iff l).mp h
    exact service x
  · obtain ⟨r, i, rest, x, -, -, -, -, -, -, -, -, rfl⟩ := (s.hostCand_iff l n).mp h
    exact service x
  · obtain ⟨e, r, -, -, -, ⟨-, -, -, rfl⟩ | ⟨-, -, -, -, -, -, -, -, -, rfl⟩⟩ := (s.pollCand_iff l p).mp h
    · exact (rfl : (2 : Nat) = 2)
    · exact (rfl : (2 : Nat) = 2)
  · obtain ⟨r, -, ⟨-, rfl⟩ | ⟨-, rfl⟩⟩ := (s.probeCand_iff l n).mp h
    · exact .inl rfl
    · exact .inr rfl

/-- The position after a transaction is served (R102). -/
theorem Sched.served_txn (d : Sched) {k : Nat} (h : k = 1 ∨ k = 3) (n : Option NodeId) :
    d.served k n none = if k = 1 then { d with pos1 := n } else { d with pos3 := n } := by
  rcases h with rfl | rfl <;> rfl

/-- The position after a probe is served (R102). -/
theorem Sched.served_probe (d : Sched) {k : Nat} (h : k = 2 ∨ k = 4) (n : NodeId) :
    d.served k (some n) none = if k = 2 then { d with pos2 := (n, none) } else { d with pos4 := n } := by
  rcases h with rfl | rfl <;> rfl

/-! ### The transaction -/

theorem State.modSlot_some {s : State} {i : SlotId} {x : Slot} (f : Slot → Slot) (h : s.slot i = some x) :
    s.modSlot i f = s.setSlot i (some (f x)) := by
  simp [State.modSlot, h]

theorem Txn.started_exchange {t : Txn} (h : t.kind = .exchange) (retry : Nat) (seq : Bool) :
    t.started retry seq =
      { t with attempts := t.attempts + 1, seq := some (t.seq.getD seq), retry := some (t.retry.getD retry) } := by
  cases t
  cases h
  rfl

theorem Txn.started_other {t : Txn} (h : t.kind ≠ .exchange) (retry : Nat) (seq : Bool) :
    t.started retry seq = { t with attempts := t.attempts + 1, seq := none, retry := some (t.retry.getD retry) } := by
  unfold Txn.started
  cases hk : t.kind with
  | exchange => exact absurd hk h
  | _ => rfl

section
variable {s : State} {l : LineId} {i : SlotId} {y : Slot} {t : Txn}

/-- A slot's transaction is ACTIVE with its attempt begun. -/
theorem State.activate (hx : s.slot i = some y) (ht : y.txn = some t) (u : Txn) :
    (s.modTxn i fun _ => u).modSlot i (fun x => { x with st := .active }) =
      s.setSlot i (some { y with st := .active, txn := some u }) := by
  have h1 : s.modTxn i (fun _ => u) = s.setSlot i (some { y with txn := some u }) := by
    rw [State.modTxn, State.modSlot_some _ hx, ht]
    rfl
  rw [h1, State.modSlot_some _ (State.slot_setSlot_self s i _), State.setSlot_setSlot]

theorem State.handTxn_some (hx : s.slot i = some y) (ht : y.txn = some t) : s.handTxn l i =
    match s.nodeOfTxn t with
    | some n =>
      match s.node n with
      | some r =>
        let u := t.started (r.effRetry (s.line l).cfg) r.seq
        ((s.setSlot i (some { y with st := .active, txn := some u })).modNode n
            fun z => { z with openX := some (.slot i) }).modLine l (·.take (u.attempt i (some (r.effResp (s.line l).cfg))))
      | none => s
    | none =>
      let u := t.started (s.line l).cfg.retryLimit false
      let resp := match t.kind with | .broadcast => none | _ => some (s.line l).cfg.respLimit
      (s.setSlot i (some { y with st := .active, txn := some u })).modLine l (·.take (u.attempt i resp)) := by
  have hact := fun u : Txn => State.activate hx ht u
  obtain ⟨st, q, cls, tag, txn, se⟩ := y
  cases ht
  unfold State.handTxn
  rw [hx]
  dsimp only
  simp only [hact] <;> rfl

theorem State.nodeOfSlot_some (hx : s.slot i = some y) (ht : y.txn = some t) : s.nodeOfSlot i = s.nodeOfTxn t := by
  obtain ⟨st, q, cls, tag, txn, se⟩ := y
  cases ht
  unfold State.nodeOfSlot
  rw [hx]

theorem State.handOver_txn {c : Cand} (hw : c.work = .txn i) :
    s.handOver l c = (s.handTxn l i).modSched l (·.served c.cls (s.nodeOfSlot i) none) := by
  unfold State.handOver
  rw [hw]

end

/-! ### Poll instances and probes (R58, R111) -/

section
variable {s : State} {l : LineId} {c : Cand} {p : PollId} {e : Poll} {nd : Node}

/-- A new instance is chosen where none is in flight (R97). -/
theorem State.inst_of_pollNew (h : c ∈ s.candidates l) (hw : c.work = .pollNew p) (he : s.poll p = some e) :
    e.inst = none := by
  rcases (s.mem_candidates l c).mp h with h | ⟨n, h⟩ | ⟨q, h⟩ | ⟨n, h⟩
  · obtain ⟨i, rest, x, -, -, -, rfl⟩ := (s.lineListCand_iff l).mp h
    cases hw
  · obtain ⟨r, i, rest, x, -, -, -, -, -, -, -, -, rfl⟩ := (s.hostCand_iff l n).mp h
    cases hw
  · obtain ⟨d, r, hd, -, -, ⟨-, -, -, rfl⟩ | ⟨hi, -, -, -, -, -, -, -, -, rfl⟩⟩ := (s.pollCand_iff l q).mp h
    · cases hw
    · cases hw
      cases he.symm.trans hd
      exact hi
  · obtain ⟨r, -, ⟨-, rfl⟩ | ⟨-, rfl⟩⟩ := (s.probeCand_iff l n).mp h <;> cases hw

theorem State.handPoll_new (he : s.poll p = some e) (hn : s.node e.node = some nd) (hi : e.inst = none) :
    s.handPoll l p =
      ((s.setPoll p (some { e with
        due := false, running := true
        inst := some { seq := nd.seq, retry := nd.effRetry (s.line l).cfg, attempts := 1, lastOut := none } })).setNode e.node
        (some { nd with openX := some (.poll p) })).modLine l
          (·.take (e.attempt p nd.seq nd.address (nd.effResp (s.line l).cfg))) := by
  unfold State.handPoll
  rw [he]
  dsimp only
  rw [hn]
  dsimp only
  rw [hi]
  dsimp only
  rw [State.modNode_some (s := s.setPoll p _) _ hn]

theorem State.handPoll_again {k : PollInst} (he : s.poll p = some e) (hn : s.node e.node = some nd) (hi : e.inst = some k) :
    s.handPoll l p =
      (s.setPoll p (some { e with running := true, inst := some { k with attempts := k.attempts + 1 } })).modLine l
        (·.take (e.attempt p k.seq nd.address (nd.effResp (s.line l).cfg))) := by
  unfold State.handPoll
  rw [he]
  dsimp only
  rw [hn]
  dsimp only
  rw [hi]

theorem State.handOver_poll (hw : c.work = .pollNew p ∨ c.work = .pollAgain p) :
    s.handOver l c = (s.handPoll l p).modSched l (·.served c.cls ((s.poll p).map (·.node)) (some p)) := by
  unfold State.handOver
  rcases hw with hw | hw <;> rw [hw]

theorem State.handProbe_some {n : NodeId} (hn : s.node n = some nd) :
    s.handProbe l n = (s.setNode n (some { nd with probeDue := false, promoted := false })).modLine l
      (·.take { owner := .probe n, address := nd.address, seq := false, function := fnProbe, data := []
                respLimit := some (nd.effResp (s.line l).cfg) }) := by
  unfold State.handProbe
  rw [hn]

theorem State.handOver_probe {n : NodeId} (hw : c.work = .probe n) :
    s.handOver l c = (s.handProbe l n).modSched l (·.served c.cls (some n) none) := by
  unfold State.handOver
  rw [hw]

end

/-- What the promotion of probes leaves as it is. -/
theorem State.promote_same (s : State) (l : LineId) : (s.promote l).line l = s.line l ∧ (s.promote l).sched l = s.sched l ∧
    (∀ i, (s.promote l).slot i = s.slot i) ∧ ∀ p, (s.promote l).poll p = s.poll p := by
  have hframe := (s.promote_spec l).1
  generalize (s.promote l).nodes = N at hframe
  rw [hframe]
  exact ⟨rfl, rfl, fun _ => rfl, fun _ => rfl⟩

/-! ### The hand-over -/

/-- Settles O39: the promoted probes keep their mark; then the work is handed over in the state that leaves. -/
theorem handsOverExchange : Obligations.HandsOverExchange := by
  intro s l c hctl hst hchoose s1 x given resp tries begun moved
  have hclass := State.class_of_mem (State.choose_some hchoose).1
  have hexec : exec (.schedulerChoice l) s = .next (s1.handOver l c) := by
    refine congrArg Host.Outcome.next ((State.schedule_eq hst hctl).trans ?_)
    rw [hchoose]
  rw [hexec]
  obtain ⟨hline, hsched, hslot, hpoll⟩ := s.promote_same l
  change s1.line l = x at hline
  change s1.sched l = s.sched l at hsched
  change ∀ i, s1.slot i = s.slot i at hslot
  change ∀ p, s1.poll p = s.poll p at hpoll
  have hmoved (pos : Option NodeId) : moved pos =
      if c.cls = 1 then { s1.sched l with pos1 := pos } else { s1.sched l with pos3 := pos } := by
    rw [hsched]
  have hnew {p : PollId} {e : Poll} (hw : c.work = .pollNew p) (he : s.poll p = some e) : e.inst = none :=
    State.inst_of_pollNew (State.choose_some hchoose).1 hw he
  clear_value s1 x moved
  subst hline
  refine ⟨fun i y t n nd hw hy ht hk hf hn => ?_, fun i y t hw hy ht hk => ?_, fun p e nd hw he hn => ?_,
    fun p e k nd hw he hi hn => ?_, fun n nd hw hn => ?_⟩
  · rw [hw] at hclass
    have hx : s1.slot i = some y := (hslot i).trans hy
    have hnode : s1.nodeOfTxn t = some n := by
      unfold State.nodeOfTxn
      rw [hk]
      exact hf
    refine congrArg Host.Outcome.next ?_
    rw [State.handOver_txn hw, State.handTxn_some hx ht, State.nodeOfSlot_some hx ht, hnode]
    dsimp only
    rw [hn]
    dsimp only
    rw [Txn.started_exchange hk, State.modNode_some (s := s1.setSlot i _) _ hn, State.modSched, Sched.served_txn _ hclass,
      hmoved]
    rfl
  · rw [hw] at hclass
    have hx : s1.slot i = some y := (hslot i).trans hy
    have hnode : s1.nodeOfTxn t = none := by
      unfold State.nodeOfTxn
      cases hk' : t.kind with
      | exchange => exact absurd hk' hk
      | _ => rfl
    have hresp : (match t.kind with | .broadcast => none | _ => some (s1.line l).cfg.respLimit) =
        if t.kind = .broadcast then none else some (s1.line l).cfg.respLimit := by cases t.kind <;> rfl
    refine congrArg Host.Outcome.next ?_
    rw [State.handOver_txn hw, State.handTxn_some hx ht, State.nodeOfSlot_some hx ht, hnode]
    dsimp only
    rw [Txn.started_other hk, State.modSched, Sched.served_txn _ hclass, hmoved, hresp]
    rfl
  · rw [hw] at hclass
    refine congrArg Host.Outcome.next ?_
    rw [State.handOver_poll (.inl hw), State.handPoll_new ((hpoll p).trans he) hn (hnew hw he), (hpoll p).trans he,
      show c.cls = 2 from hclass, ← hsched]
    rfl
  · rw [hw] at hclass
    refine congrArg Host.Outcome.next ?_
    rw [State.handOver_poll (.inr hw), State.handPoll_again ((hpoll p).trans he) hn hi, (hpoll p).trans he,
      show c.cls = 2 from hclass, ← hsched]
    rfl
  · rw [hw] at hclass
    refine congrArg Host.Outcome.next ?_
    rw [State.handOver_probe hw, State.handProbe_some hn, State.modSched, Sched.served_probe _ hclass, ← hsched]
    rfl

end Sys2Proof.Machine

/-! What an outcome does to a transaction and to a poll instance (R23, R55, R60, R69 to R71, R74, R76 to R82, R89,
R112 to R116). -/

namespace Sys2Proof.Machine

/-! ### Outcomes and fates (R50, R77, R82) -/

theorem Outcome.silent_iff (o : Outcome) :
    o.silent = true ↔ o = .timeout ∨ o = .checkError ∨ o = .truncated ∨ o = .charError := by
  cases o <;> simp [Outcome.silent]

theorem Txn.recorded_eq (t : Txn) (rep : Report) :
    t.recorded rep =
      if rep.outcome = .replyBusy ∧ t.abortMark = false ∧ t.latePass = false ∧ t.detached = false then
        { t with lastOut := some rep.outcome
                 busies := if t.kind = .discover then 1 else t.busies + 1
                 lastHint := if t.kind = .discover then rep.hint else rep.hint.or t.lastHint }
      else { t with lastOut := some rep.outcome } := by
  unfold Txn.recorded
  refine if_congr .rfl ?_ rfl
  cases hk : t.kind <;> simp

/-- The rows of R82 below the two answers. -/
theorem Txn.fate_unanswered {t : Txn} {rep : Report} (hok : rep.outcome ≠ .replyOk) (hrej : rep.outcome ≠ .replyReject) :
    t.fate rep =
      if t.detached then .ends .nodeDisabled 0 rep.busyTurn
      else if rep.outcome = .fault then .ends .lineFault 0 0
      else if t.abortMark then .ends .aborted 0 rep.busyTurn
      else if t.latePass then .ends .expired 0 rep.busyTurn
      else if rep.outcome = .replyBusy then
        if t.kind = .discover ∨ t.busyLimit < t.busies then .ends .nodeBusy (t.lastHint.getD 0) rep.turn else .again
      else if t.answeredAttempts < t.retry.getD 0 + 1 then .again
      else .ends rep.outcome.status 0 0 := by
  unfold Txn.fate
  split
  · next h => exact absurd h hok
  · next h => exact absurd h hrej
  · rfl

theorem Txn.endsAt_eq (t : Txn) (rep : Report) : t.endsAt rep = decide (t.fate rep ≠ .again) := by
  unfold Txn.endsAt
  cases t.fate rep <;> simp

/-! ### The lists of a transaction (R55, R60, R74, R89) -/

section
variable {s : State} {i : SlotId} {x : Slot} {t : Txn}

theorem State.nodeOfTxn_eq (s : State) (t : Txn) :
    s.nodeOfTxn t = if t.kind = .exchange then s.findNode t.line t.address else none := by
  unfold State.nodeOfTxn
  cases t.kind <;> simp

theorem State.leaveList_node {n : NodeId} (h : s.nodeOfTxn t = some n) : s.leaveList i t = s.modNode n (·.dropSlot i) := by
  rw [State.nodeOfTxn_eq] at h
  split at h
  · next hk =>
    unfold State.leaveList
    rw [hk]
    dsimp only
    rw [h]
  · cases h

theorem State.leaveList_noNode (h : s.nodeOfTxn t = none) : s.leaveList i t =
    if t.kind = .exchange then s
    else s.setSched t.line { s.sched t.line with lineList := (s.sched t.line).lineList.filter (· != i) } := by
  rw [State.nodeOfTxn_eq] at h
  unfold State.leaveList
  cases hk : t.kind with
  | exchange =>
    rw [hk, if_pos rfl] at h
    dsimp only
    rw [h, if_pos rfl]
  | broadcast => rfl
  | discover => rfl

/-- A transaction that leaves its list keeps its node and that node's state. -/
theorem State.healthOfTxn_leaveList (s : State) (i : SlotId) (t : Txn) :
    (s.leaveList i t).healthOfTxn t = (s.nodeOfTxn t).bind fun n => (s.node n).map (·.health) := by
  unfold State.healthOfTxn
  cases h : s.nodeOfTxn t with
  | none =>
    have hn : (s.leaveList i t).nodeOfTxn t = none := by
      rw [State.leaveList_noNode h]
      split <;> exact h
    rw [hn]
    rfl
  | some n =>
    rw [State.leaveList_node h]
    have hk : t.kind = .exchange ∧ s.findNode t.line t.address = some n := by
      rw [State.nodeOfTxn_eq] at h
      split at h
      · exact ⟨‹_›, h⟩
      · cases h
    obtain ⟨nd, hn, -⟩ := State.findNode_some hk.2
    have hm : (s.modNode n (·.dropSlot i)).nodeOfTxn t = some n := by
      rw [State.nodeOfTxn_eq, if_pos hk.1, State.modNode_some _ hn, State.findNode_setNode (q := nd.dropSlot i) hn rfl rfl, hk.2]
    rw [hm]
    dsimp only
    rw [State.modNode_some _ hn, State.node_setNode_self, Option.bind_some, hn]
    rfl

theorem State.cqs_leaveList (s : State) (i : SlotId) (t : Txn) : (s.leaveList i t).cqs = s.cqs := by
  cases h : s.nodeOfTxn t with
  | none =>
    rw [State.leaveList_noNode h]
    split <;> rfl
  | some n =>
    rw [State.leaveList_node h]
    rfl

theorem State.quWrites_leaveList (s : State) (i : SlotId) (t : Txn) : (s.leaveList i t).quWrites = s.quWrites := by
  cases h : s.nodeOfTxn t with
  | none =>
    rw [State.leaveList_noNode h]
    split <;> rfl
  | some n =>
    rw [State.leaveList_node h]
    rfl

/-- A transaction that has left its list enters HELD at the tail of its queue's CQ. -/
theorem State.enterHeld_leaveList (hx : s.slot i = some x) (t : Txn) (r : Settled) :
    (s.leaveList i t).enterHeld i r =
      ((s.leaveList i t).setSlot i (some { x with st := .held, settled := some r })).setCq (s.sq x.sq).cq
        { s.cq (s.sq x.sq).cq with held := (s.cq (s.sq x.sq).cq).held ++ [HeldRef.slot i] } := by
  have hcq (c : CqId) : (s.leaveList i t).cq c = s.cq c := congrArg (·[c]) (s.cqs_leaveList i t)
  have hsq : ((s.leaveList i t).sq x.sq).cq = (s.sq x.sq).cq :=
    congrArg (fun v : Vector Sq _ => v[x.sq].cq) (s.sqs_leaveList i t)
  rw [State.enterHeld_some ((s.slot_leaveList i t i).trans hx), hsq, hcq]

theorem State.complete_some (hx : s.slot i = some x) (ht : x.txn = some t) (st : Status) (code : Byte) (turn : Nat)
    (unk : Bool) : s.complete i st code turn unk =
      (s.leaveList i t).enterHeld i (Settled.plain st code turn ((s.leaveList i t).healthOfTxn t) unk) := by
  obtain ⟨sst, q, cls, tag, txn, se⟩ := x
  cases ht
  unfold State.complete
  rw [hx]

theorem State.modTxn_some (hx : s.slot i = some x) (ht : x.txn = some t) (u : Txn) :
    s.modTxn i (fun _ => u) = s.setSlot i (some { x with txn := some u }) := by
  rw [State.modTxn, State.modSlot_some _ hx, ht]
  rfl

/-! ### A fate carried out (R76, R77, R79 to R82) -/

theorem State.applyFate_answered {rep : Report} (h : t.fate rep = .answered) :
    s.applyFate i t rep = s.answerSlot i t rep := by
  unfold State.applyFate
  rw [h]

theorem State.applyFate_rejected {rep : Report} (h : t.fate rep = .rejected) :
    s.applyFate i t rep =
      (s.leaveList i t).enterHeld i (t.reject rep ((s.leaveList i t).healthOfTxn t)) := by
  unfold State.applyFate
  rw [h]

theorem State.applyFate_ends {rep : Report} {st : Status} {code : Byte} {turn : Nat} (h : t.fate rep = .ends st code turn) :
    s.applyFate i t rep = s.complete i st code turn false := by
  unfold State.applyFate
  rw [h]

theorem State.applyFate_again {rep : Report} (h : t.fate rep = .again) :
    s.applyFate i t rep = s.modSlot i fun x => { x with st := .pending } := by
  unfold State.applyFate
  rw [h]

theorem Txn.answer_broadcast {rep : Report} (hk : t.kind = .broadcast) (h : Option Health) : t.answer rep h =
    { status := .ok, replyLen := 0, replyCode := 0, turn := 0, nodeState := h, abortLate := t.abortMark,
      outcomeUnk := false } := by
  unfold Txn.answer
  rw [hk]

theorem Txn.answer_single {rep : Report} (hk : t.kind ≠ .broadcast) (h : Option Health) : t.answer rep h =
    { status := if rep.data.length ≤ t.capacity then .ok else .dataTruncated, replyLen := rep.data.length,
      replyCode := rep.code, turn := rep.turn, nodeState := h, abortLate := t.abortMark, outcomeUnk := false } := by
  unfold Txn.answer
  cases hk' : t.kind with
  | broadcast => exact absurd hk' hk
  | exchange => rfl
  | discover => rfl

end

/-! ### The report of an attempt to its owner (R51, R69, R82, R112 to R116) -/

/-- The report takes a record OFFLINE: a silent failure at its threshold (R51). -/
theorem State.offlineReport_iff {s : State} {n : NodeId} {nd : Node} (hn : s.node n = some nd) (final : Bool) (rep : Report) :
    s.offlineReport n final rep = true ↔ final = true ∧
      ((rep.outcome = .timeout ∨ rep.outcome = .checkError ∨ rep.outcome = .truncated ∨ rep.outcome = .charError) ∧
        (nd.health = .unknown ∨ nd.health = .online ∨ nd.health = .suspect) ∧
        (if nd.offThresh = 0 then (s.line nd.line).cfg.offThresh else nd.offThresh) ≤ min 15 (nd.failures + 1)) := by
  unfold State.offlineReport
  rw [hn]
  dsimp only
  rw [Node.goesOffline, Bool.and_eq_true, Bool.and_eq_true, Bool.and_eq_true, decide_eq_true_iff, Outcome.silent_iff,
    Health.inService_iff, and_comm (b := final = true), and_assoc]
  rfl

section
variable {s : State} {i : SlotId} {x : Slot} {t0 : Txn}

theorem State.slotReport_some (hx : s.slot i = some x) (ht : x.txn = some t0) (hst : x.st = .active)
    (hse : x.settled = none) (q : Bool) (rep : Report) : s.slotReport i q rep =
      let t := t0.recorded rep
      let u := s.setSlot i (some { x with txn := some t })
      match s.nodeOfTxn t with
      | none => (u.applyFate i t rep).afterBroadcast t rep
      | some n =>
        let v := (u.nodeReport n q (t.endsAt rep) rep).applyFate i t rep
        if s.offlineReport n (t.endsAt rep) rep then v.offlineFlush n else v := by
  have hu := fun t => State.modTxn_some hx ht t
  obtain ⟨st, sq, cls, tag, txn, se⟩ := x
  cases ht
  cases hst
  cases hse
  unfold State.slotReport
  rw [hx]
  dsimp only
  simp only [hu] <;> rfl

theorem State.slotReport_left (hx : s.slot i = some x) (h : x.st ≠ .active ∨ x.settled ≠ none) (q : Bool) (rep : Report) :
    s.slotReport i q rep = s := by
  unfold State.slotReport
  rw [hx]
  split
  · next heq =>
    cases heq
    rcases h with h | h <;> exact absurd rfl h
  · rfl

end

section
variable {s : State} {p : PollId} {e : Poll} {k : PollInst}

theorem State.pollReport_withdrawn (he : s.poll p = some e) (hi : e.inst = none) (q : Bool) (rep : Report) :
    s.pollReport p q rep =
      let v := (s.setPoll p (some { e with running := false })).nodeReport e.node q true rep
      if s.offlineReport e.node true rep then v.offlineFlush e.node else v := by
  unfold State.pollReport
  rw [he]
  dsimp only
  rw [hi]

theorem State.pollReport_further (he : s.poll p = some e) (hi : e.inst = some k) {q : Bool} {rep : Report}
    (ha : k.again rep.outcome = true) : s.pollReport p q rep =
      (s.setPoll p (some { e with running := false, inst := some { k with lastOut := some rep.outcome } })).nodeReport
        e.node q false rep := by
  unfold State.pollReport
  rw [he]
  dsimp only
  rw [hi]
  exact if_pos ha

theorem State.pollReport_ends (he : s.poll p = some e) (hi : e.inst = some k) {q : Bool} {rep : Report}
    (ha : ¬k.again rep.outcome = true) : s.pollReport p q rep =
      let v := (s.nodeReport e.node q true rep).modNode e.node (·.dropPoll p)
      let w :=
        if rep.outcome = .replyOk then
          let u := v.setPoll p (some { (e.ended .ok true) with stored := rep.data })
          if e.changed rep.data then u.pendPoll p else u
        else v.setPoll p (some (e.ended rep.outcome.status false))
      if s.offlineReport e.node true rep then w.offlineFlush e.node else w := by
  unfold State.pollReport
  rw [he]
  dsimp only
  rw [hi]
  exact if_neg ha

end

theorem PollInst.again_iff (k : PollInst) (o : Outcome) :
    k.again o = true ↔ ((o = .timeout ∨ o = .checkError ∨ o = .truncated ∨ o = .charError) ∨ o = .clash) ∧
      k.attempts < k.retry + 1 := by
  rw [PollInst.again, Bool.and_eq_true, Bool.or_eq_true, Outcome.silent_iff, beq_iff_eq, decide_eq_true_iff]

theorem Poll.changed_iff (e : Poll) (data : List Byte) :
    e.changed data = true ↔ e.baseline = false ∨ data.length ≠ e.stored.length ∨
      ∃ j < data.length, e.compare.getLsbD j = true ∧ byteAt data j ≠ byteAt e.stored j := by
  simp [Poll.changed, or_assoc]

/-- Settles O48: the rows of R82; each fate carried out; the report to a transaction with its node or without one, and to a
poll instance that was withdrawn, goes on or ends. -/
theorem outcomesSettled : Obligations.OutcomesSettled := by
  refine ⟨fun t rep => ⟨t.recorded_eq rep, fun h => ?_, fun h => ?_, fun hok hrej => ?_⟩, fun s i x t rep hx ht => ?_,
    fun s rep q => ?_⟩
  · unfold Txn.fate
    rw [h]
  · unfold Txn.fate
    rw [h]
  · intro turn
    have hfate := Txn.fate_unanswered (t := t) hok hrej
    have hturn : rep.busyTurn = turn := rfl
    have hstatus (hf : rep.outcome ≠ .fault) (hb : rep.outcome ≠ .replyBusy) : rep.outcome.status = match rep.outcome with
        | .timeout => .noReply | .checkError => .checkError | .truncated => .truncated | .charError => .lineError
        | _ => .clash := by
      cases ho : rep.outcome with
      | replyOk => exact absurd ho hok
      | replyReject => exact absurd ho hrej
      | replyBusy => exact absurd ho hb
      | fault => exact absurd ho hf
      | timeout | checkError | truncated | charError | clash => rfl
    refine ⟨fun hd => ?_, fun hd hf => ?_, fun hd hf ha => ?_, fun hd hf ha hl => ?_, fun hd hf ha hl => ⟨fun hb => ?_, fun hb => ?_⟩⟩
    · rw [hfate, if_pos hd, hturn]
    · rw [hfate, hd, if_neg Bool.false_ne_true, if_pos hf]
    · rw [hfate, hd, if_neg Bool.false_ne_true, if_neg hf, if_pos ha, hturn]
    · rw [hfate, hd, if_neg Bool.false_ne_true, if_neg hf, ha, if_neg Bool.false_ne_true, if_pos hl, hturn]
    · rw [hfate, hd, if_neg Bool.false_ne_true, if_neg hf, ha, if_neg Bool.false_ne_true, hl, if_neg Bool.false_ne_true,
        if_pos hb]
    · rw [hfate, hd, if_neg Bool.false_ne_true, if_neg hf, ha, if_neg Bool.false_ne_true, hl, if_neg Bool.false_ne_true,
        if_neg hb, hstatus hf hb]
      rfl
  · intro nd left h held
    have hnd : s.nodeOfTxn t = nd := s.nodeOfTxn_eq t
    have hleft : s.leaveList i t = left := by
      have hl (m : Option NodeId) : s.nodeOfTxn t = m → s.leaveList i t =
          match m with
          | some n => s.setNode n ((s.node n).map fun (r : Node) =>
              ({ r with pendingList := r.pendingList.filter (· != i)
                        openX := if r.openX = some (OpenX.slot i) then none else r.openX } : Node))
          | none =>
            if t.kind = .exchange then s
            else s.setSched t.line { s.sched t.line with lineList := (s.sched t.line).lineList.filter (· != i) } := by
        cases m with
        | none => exact State.leaveList_noNode
        | some n => exact State.leaveList_node
      exact hl _ hnd
    have hhealth : (s.leaveList i t).healthOfTxn t = h := (s.healthOfTxn_leaveList i t).trans (by rw [hnd])
    have hheld (r : Settled) : (s.leaveList i t).enterHeld i r = held r :=
      (State.enterHeld_leaveList hx t r).trans (by rw [hleft])
    refine ⟨fun hf hk => ?_, fun hf hk => ?_, fun hf => ?_, fun st code turn hf => ?_, fun hf => ?_⟩
    · have hnone : h = none := by
        have : nd = none := if_neg (by rw [hk]; exact nofun)
        change nd.bind _ = none
        rw [this]
        rfl
      rw [State.applyFate_answered hf, State.answerSlot, hhealth, Txn.answer_broadcast hk, hnone]
      exact (if_pos (.inl rfl)).trans (hheld _)
    · intro r
      have hr : s.applyFate i t rep =
          if r.replyLen = 0 ∨ t.capacity = 0 then (s.leaveList i t).enterHeld i r
          else ((s.leaveList i t).modSlot i fun x => { x with settled := some r }).pushWrite
            { addr := t.buffer, data := rep.data.take t.capacity, use := .reply i } := by
        rw [State.applyFate_answered hf, State.answerSlot, hhealth, Txn.answer_single hk]
      have hlen : r.replyLen = 0 ↔ rep.data = [] := List.length_eq_zero_iff
      refine ⟨fun hd => ?_, fun hd hc => ?_⟩
      · rw [hr, if_pos (hd.imp_left hlen.mpr)]
        exact hheld r
      · rw [hr, if_neg (not_or.mpr ⟨fun h0 => hd (hlen.mp h0), hc⟩),
          State.modSlot_some _ ((s.slot_leaveList i t i).trans hx), ← hleft, ← s.quWrites_leaveList i t]
        rfl
    · rw [State.applyFate_rejected hf, hhealth]
      exact hheld _
    · rw [State.applyFate_ends hf, State.complete_some hx ht, hhealth]
      exact hheld _
    · rw [State.applyFate_again hf, State.modSlot_some _ hx]
  · intro silent down
    refine ⟨fun i x t0 hx ht hst hse => ?_, fun i x hx h => State.slotReport_left hx h q rep, fun p e nd he hn => ?_⟩
    · intro t u ends
      have hends : t.endsAt rep = ends := t.endsAt_eq rep
      have hrep := State.slotReport_some hx ht hst hse q rep
      refine ⟨fun n nd hk hf hn => ?_, fun hk hf => ?_, fun hk => ?_⟩
      · have hnode : s.nodeOfTxn (t0.recorded rep) = some n := (s.nodeOfTxn_eq _).trans ((if_pos hk).trans hf)
        rw [hrep]
        dsimp only
        rw [hnode]
        dsimp only
        rw [hends]
        exact if_congr (State.offlineReport_iff hn ends rep) rfl rfl
      · have hnode : s.nodeOfTxn (t0.recorded rep) = none := (s.nodeOfTxn_eq _).trans ((if_pos hk).trans hf)
        rw [hrep]
        dsimp only
        rw [hnode]
        exact if_neg fun ⟨hb, _⟩ => by cases (show t.kind = .broadcast from hb).symm.trans hk
      · have hnode : s.nodeOfTxn (t0.recorded rep) = none := (s.nodeOfTxn_eq _).trans (if_neg hk)
        rw [hrep]
        dsimp only
        rw [hnode]
        rfl
    · intro flush result
      have hdown : s.offlineReport e.node true rep = true ↔ down nd :=
        (State.offlineReport_iff hn true rep).trans (and_iff_right rfl)
      refine ⟨fun hi => ?_, fun k hi => ?_⟩
      · rw [State.pollReport_withdrawn he hi]
        exact if_congr hdown rfl rfl
      · intro further u v changed
        have hag : k.again rep.outcome = true ↔ further := k.again_iff rep.outcome
        have hends (hno : ¬further) := State.pollReport_ends he hi (q := q) (mt hag.mp hno)
        have hch : e.changed rep.data = true ↔ changed := e.changed_iff rep.data
        refine ⟨fun hf => State.pollReport_further he hi (hag.mpr hf), fun hno hok => ?_, fun hno hok => ?_⟩
        · intro w
          have hup : ¬s.offlineReport e.node true rep = true := fun h => by
            obtain ⟨h | h | h | h, -⟩ := hdown.mp h <;> exact nomatch hok.symm.trans h
          have hw : s.pollReport p q rep =
              if e.changed rep.data then (v.setPoll p (some w)).pendPoll p else v.setPoll p (some w) := by
            rw [hends hno]
            dsimp only
            rw [if_neg hup, if_pos hok]
            rfl
          rw [hw]
          refine ⟨fun hc => if_neg (mt hch.mp hc), fun hc => (if_pos (hch.mpr hc)).trans ?_⟩
          rw [State.pendPoll, State.pend_eq, State.modPoll, State.poll_setPoll_self, State.setPoll_setPoll]
          rfl
        · rw [hends hno]
          dsimp only
          rw [if_neg hok]
          exact if_congr hdown rfl rfl

end Sys2Proof.Machine

/-! What the node table takes of an outcome and of a probe (R47 to R51, R54, R56, R57, R59, R61, R63, R117, R118). -/

namespace Sys2Proof.Machine

section
variable {s : State} {n : NodeId} {nd : Node}

/-! ### The report to a record (R48 to R50) -/

theorem State.pendNode_setNode (s : State) (n : NodeId) (r : Node) :
    (s.setNode n (some r)).pendNode n =
      { s.setNode n (some { r with noticeMark := true }) with noticeList := joined s.noticeList (.node n) } := by
  rw [State.pendNode, State.pend_eq, State.modNode, State.node_setNode_self, State.setNode_setNode]
  rfl

theorem State.pendNode_polls (s : State) (ps : Vector (Option Poll) 64) (n : NodeId) :
    ({ s with polls := ps }).pendNode n = { s.pendNode n with polls := ps } := by
  rw [State.pendNode, State.pendNode, State.pend_eq, State.pend_eq]
  rfl

theorem State.nodeReport_answer (hn : s.node n = some nd) {rep : Report} (q final : Bool)
    (h : rep.outcome = .replyOk ∨ rep.outcome = .replyReject) : s.nodeReport n q final rep =
      if nd.health.noticesAnswer then (s.setNode n (some (nd.accept q rep.turn))).pendNode n
      else s.setNode n (some (nd.accept q rep.turn)) := by
  unfold State.nodeReport
  rw [hn]
  rcases h with h | h <;> rw [h]

theorem State.nodeReport_busy (hn : s.node n = some nd) {rep : Report} (q final : Bool) (h : rep.outcome = .replyBusy) :
    s.nodeReport n q final rep =
      let r := nd.busy rep.turn (s.msAfter (holdOffMs rep.hint (s.line nd.line).cfg))
      if nd.health.noticesBusy then (s.setNode n (some r)).pendNode n else s.setNode n (some r) := by
  unfold State.nodeReport
  rw [hn]
  dsimp only
  rw [h]

theorem State.nodeReport_other (hn : s.node n = some nd) {rep : Report} (q final : Bool) (hok : rep.outcome ≠ .replyOk)
    (hrej : rep.outcome ≠ .replyReject) (hbusy : rep.outcome ≠ .replyBusy) : s.nodeReport n q final rep =
      let cfg := (s.line nd.line).cfg
      if rep.outcome.silent && final then
        s.setNode n (some (nd.silentFailure (nd.effThresh cfg) (s.msAfter cfg.probeIval)))
      else s := by
  unfold State.nodeReport
  rw [hn]
  dsimp only
  split
  · next h => exact absurd h hok
  · next h => exact absurd h hrej
  · next h => exact absurd h hbusy
  · rfl

theorem Health.noticesAnswer_iff (h : Health) : h.noticesAnswer = true ↔ h = .unknown ∨ h = .offline := by
  cases h <;> simp [Health.noticesAnswer]

theorem Health.noticesBusy_iff (h : Health) : h.noticesBusy = true ↔ h = .unknown := by
  cases h <;> simp [Health.noticesBusy]

/-- An answer, state by state (R48, R49, R54). -/
theorem Node.accept_eq (nd : Node) (q : Bool) (turn : Nat) : nd.accept q turn =
    { nd with
      lastTurn := turn, maxTurn := max nd.maxTurn turn
      seq := !q, successes := min 4294967295 (nd.successes + 1)
      failures := if nd.health = .disabled then nd.failures else 0
      health := if nd.health = .disabled then Health.disabled else .online
      transitions :=
        if nd.health = .suspect ∨ nd.health = .offline then min 255 (nd.transitions + 1) else nd.transitions
      nextProbe := if nd.health = .offline then none else nd.nextProbe
      probeDue := if nd.health = .offline then false else nd.probeDue
      promoted := if nd.health = .offline then false else nd.promoted } := by
  obtain ⟨l, a, h⟩ := nd
  cases h <;> rfl

/-- A BUSY of a record in service (R49, R57). -/
theorem Node.busy_inService (h : nd.health = .unknown ∨ nd.health = .online ∨ nd.health = .suspect) (turn : Nat)
    (at' : Word) : nd.busy turn at' =
    { nd with
      lastTurn := turn, maxTurn := max nd.maxTurn turn
      failures := 0, health := Health.online
      transitions := if nd.health = .suspect then min 255 (nd.transitions + 1) else nd.transitions
      holdOffEnd := some at' } := by
  obtain ⟨l, a, hh⟩ := nd
  dsimp only at h
  rcases h with rfl | rfl | rfl <;> rfl

theorem Node.busy_disabled (h : nd.health = .disabled) (turn : Nat) (at' : Word) :
    nd.busy turn at' = { nd with lastTurn := turn, maxTurn := max nd.maxTurn turn } := by
  obtain ⟨l, a, hh⟩ := nd
  cases h
  rfl

theorem holdOffMs_eq (hint : Option Byte) (cfg : LineCfg) : holdOffMs hint cfg =
    match hint with
    | some h => if h = 0 then cfg.busyHold else 10 * h.toNat
    | none => cfg.busyHold := by
  cases hint with
  | none => rfl
  | some h => exact if_congr .rfl rfl (Nat.mul_comm _ _)

/-! A silent failure below the threshold, at it, and of a record that is not in service (R50, R51). -/

theorem Node.goesOffline_iff (nd : Node) (thresh : Nat) : nd.goesOffline thresh = true ↔
    (nd.health = .unknown ∨ nd.health = .online ∨ nd.health = .suspect) ∧ thresh ≤ min 15 (nd.failures + 1) := by
  rw [Node.goesOffline, Bool.and_eq_true, Health.inService_iff, decide_eq_true_iff]
  rfl

theorem Node.silentFailure_below (h : nd.health = .unknown ∨ nd.health = .online ∨ nd.health = .suspect) {thresh : Nat}
    (hf : min 15 (nd.failures + 1) < thresh) (probeAt : Word) : nd.silentFailure thresh probeAt =
    { nd with
      silents := min 4294967295 (nd.silents + 1), failures := min 15 (nd.failures + 1), health := Health.suspect
      transitions := if nd.health = .online then min 255 (nd.transitions + 1) else nd.transitions } := by
  unfold Node.silentFailure
  rw [if_neg fun hd => Nat.not_lt.mpr ((nd.goesOffline_iff thresh).mp hd).2 hf]
  obtain ⟨l, a, hh⟩ := nd
  dsimp only at h
  rcases h with rfl | rfl | rfl <;> rfl

theorem Node.silentFailure_offline (h : nd.health = .unknown ∨ nd.health = .online ∨ nd.health = .suspect) {thresh : Nat}
    (hf : thresh ≤ min 15 (nd.failures + 1)) (probeAt : Word) : nd.silentFailure thresh probeAt =
    { nd with
      silents := min 4294967295 (nd.silents + 1), failures := min 15 (nd.failures + 1), health := Health.offline
      openX := none, holdOffEnd := none, nextProbe := some probeAt, probeDue := false, promoted := false
      transitions := if nd.health = .unknown then nd.transitions else min 255 (nd.transitions + 1) } := by
  unfold Node.silentFailure
  rw [if_pos ((nd.goesOffline_iff thresh).mpr ⟨h, hf⟩)]
  obtain ⟨l, a, hh⟩ := nd
  dsimp only at h
  rcases h with rfl | rfl | rfl <;> rfl

theorem Node.silentFailure_out (h : ¬(nd.health = .unknown ∨ nd.health = .online ∨ nd.health = .suspect)) (thresh : Nat)
    (probeAt : Word) : nd.silentFailure thresh probeAt = { nd with silents := min 4294967295 (nd.silents + 1) } := by
  unfold Node.silentFailure
  rw [if_neg fun hd => h ((nd.goesOffline_iff thresh).mp hd).1]
  obtain ⟨l, a, hh⟩ := nd
  dsimp only at h
  cases hh <;> simp at h <;> rfl

/-! ### The suspension of a node's entries (R117) -/

theorem State.suspendNode_frame (hn : s.node n = some nd) : ∃ v, s.suspendNode n = v ∧
    v = { s with polls := v.polls, nodes := v.nodes } ∧
    (∀ p, s.poll p = none → v.poll p = none) ∧
    (∀ p e, s.poll p = some e →
      let goes := e.node = n ∧ e.st = .active ∧ e.removal = false
      (goes → v.poll p = some
        { e with st := .suspended, due := false, inst := none, baseline := false, nextDue := none }) ∧
      (¬goes → v.poll p = some e)) ∧
    (∀ m, m ≠ n → v.node m = s.node m) ∧
    ((∃ p e, s.poll p = some e ∧ e.node = n ∧ e.st = .active ∧ e.removal = false ∧ e.inst ≠ none ∧
        nd.openX = some (.poll p)) → v.node n = some { nd with openX := none }) ∧
    ((∀ p e, s.poll p = some e → e.node = n → e.st = .active → e.removal = false → e.inst ≠ none →
        nd.openX ≠ some (.poll p)) → v.node n = some nd) := by
  have hspec := State.foldl_withdrawAs Poll.suspends (fun x => { x with st := .suspended })
    (l := s.pollsOfNode n) (nodup_allPolls.filter _) s
  dsimp only at hspec
  rw [← State.foldl_suspend] at hspec
  obtain ⟨hframe, hpoll, hnone, hsome⟩ := hspec
  refine ⟨_, rfl, hframe, fun p hp => (hpoll p).trans (by simp [hp]), fun p e he => ?_, fun m hm => ?_, fun hfree => ?_,
    fun hno => ?_⟩
  · have hp := hpoll p
    rw [he] at hp
    refine ⟨fun ⟨hen, ha, hr⟩ => hp.trans ?_, fun hno => hp.trans ?_⟩
    · rw [if_pos (State.mem_pollsOfNode.mpr ⟨e, he, hen⟩)]
      simp [Poll.withdrawnAs, Poll.suspends, ha, hr, Poll.withdrawn]
    · split
      · next hm =>
        obtain ⟨e', he', hen⟩ := State.mem_pollsOfNode.mp hm
        cases he.symm.trans he'
        have hs : ¬Poll.suspends e = true := fun h => hno ⟨hen, by simpa [Poll.suspends] using h⟩
        simp [Poll.withdrawnAs, hs]
      · rfl
  · cases hr : s.node m with
    | none => exact hnone m hr
    | some r =>
      refine (hsome m r hr).2 fun ⟨p, hp, e, he, _, _, hem, _⟩ => hm ?_
      obtain ⟨e', he', hen⟩ := State.mem_pollsOfNode.mp hp
      cases he.symm.trans he'
      exact hem.symm.trans hen
  · obtain ⟨p, e, he, hen, ha, hr, hi, ho⟩ := hfree
    refine (hsome n nd hn).1 ⟨p, State.mem_pollsOfNode.mpr ⟨e, he, hen⟩, e, he, ?_, hi, hen, ho⟩
    simp [Poll.suspends, ha, hr]
  · refine (hsome n nd hn).2 fun ⟨p, _, e, he, hs, hi, hen, ho⟩ => ?_
    have hsus : e.st = .active ∧ e.removal = false := by simpa [Poll.suspends] using hs
    exact hno p e he hen hsus.1 hsus.2 hi ho

/-! ### The report of a probe (R59) -/

theorem State.probeReport_discarded (hn : s.node n = some nd) (h : nd.health ≠ .offline ∨ nd.removal = true)
    (rep : Option Report) : s.probeReport n rep = s := by
  unfold State.probeReport
  rw [hn]
  exact if_neg fun ⟨ho, hr⟩ => h.elim (fun h => h ho) fun h => Bool.false_ne_true (hr.symm.trans h)

theorem State.probeReport_offline (hn : s.node n = some nd) (ho : nd.health = .offline) (hr : nd.removal = false)
    (rep : Option Report) : s.probeReport n rep =
      let later := { nd with nextProbe := some (s.msAfter (s.line nd.line).cfg.probeIval), probeDue := false, promoted := false }
      match rep with
      | none => s.setNode n (some later)
      | some rp =>
        match rp.outcome with
        | .replyOk | .replyReject => ((s.setNode n (some (nd.probedBack rp.turn))).resumeNode n).pendNode n
        | .replyBusy => s.setNode n (some (later.turned rp.turn))
        | _ => s.setNode n (some later) := by
  unfold State.probeReport
  rw [hn]
  exact (if_pos ⟨ho, hr⟩).trans (by cases rep <;> rfl)

end

/-- Settles O49: each kind of outcome by the record's state; the flush and the suspension of an entry to OFFLINE; each end of
a probe. -/
theorem nodeHealth : Obligations.NodeHealth := by
  intro s n nd hn cfg thresh serves up probeAt noticed turned
  have hnoticed (r : Node) : (s.setNode n (some r)).pendNode n = noticed s r := s.pendNode_setNode n r
  refine ⟨fun q final rep => ?_, ⟨_, rfl, ?_⟩, State.suspendNode_frame hn,
    fun h rep => State.probeReport_discarded hn h rep, fun ho hr => ?_⟩
  · intro silent
    refine ⟨fun h => ?_, fun h => ⟨fun hd => ?_, fun hs => ?_⟩, fun hsil hfin => ?_, fun h => ?_⟩
    · intro r
      have hr : nd.accept q rep.turn = r := nd.accept_eq q rep.turn
      rw [State.nodeReport_answer hn q final h, hr, hnoticed]
      exact if_congr (Health.noticesAnswer_iff _) rfl rfl
    · rw [State.nodeReport_busy hn q final h, Node.busy_disabled hd]
      exact if_neg fun hb => nomatch hd.symm.trans ((Health.noticesBusy_iff _).mp hb)
    · intro r
      have hr : nd.busy rep.turn (s.msAfter (holdOffMs rep.hint (s.line nd.line).cfg)) = r := by
        rw [Node.busy_inService hs, holdOffMs_eq]
        rfl
      rw [State.nodeReport_busy hn q final h, hr]
      dsimp only
      rw [hnoticed]
      exact if_congr (Health.noticesBusy_iff _) rfl rfl
    · have hne {o : Outcome} (ho : o.silent = false) : rep.outcome ≠ o := fun h => by
        rw [← h, (Outcome.silent_iff _).mpr hsil] at ho
        cases ho
      have hrep : s.nodeReport n q final rep = s.setNode n (some (nd.silentFailure thresh (s.msAfter cfg.probeIval))) := by
        rw [State.nodeReport_other hn q final (hne rfl) (hne rfl) (hne rfl), (Outcome.silent_iff _).mpr hsil, hfin]
        rfl
      rw [hrep]
      refine ⟨fun hs hf => ?_, fun hs hf => ?_, fun hs => ?_⟩
      · rw [Node.silentFailure_below hs hf]
      · rw [Node.silentFailure_offline hs hf]
        rfl
      · rw [Node.silentFailure_out hs]
    · have hno : ¬(rep.outcome.silent && final) = true := fun hb => by
        obtain ⟨hsil, hfin⟩ := Bool.and_eq_true_iff.mp hb
        rcases h with h | h | ⟨-, h⟩
        · rw [h] at hsil
          cases hsil
        · rw [h] at hsil
          cases hsil
        · exact Bool.false_ne_true (h.symm.trans hfin)
      have hne {o : Outcome} (ho : o = .replyOk ∨ o = .replyReject ∨ o = .replyBusy) : rep.outcome ≠ o := by
        intro h'
        rcases ho with rfl | rfl | rfl <;> simp [silent, h'] at h
      rw [State.nodeReport_other hn q final (hne (.inl rfl)) (hne (.inr (.inl rfl))) (hne (.inr (.inr rfl)))]
      exact if_neg hno
  · have hflush : s.offlineFlush n =
        ((nd.pendingList.foldl (fun t i => t.flushPending .nodeOffline i) s).suspendNode n).pendNode n := by
      unfold State.offlineFlush
      rw [hn]
    rw [hflush, State.pendNode, State.pend_eq]
    exact ⟨rfl, rfl⟩
  · intro later
    refine ⟨State.probeReport_offline hn ho hr none, fun rep => ⟨fun h => ?_, fun hok hrej hbusy => ?_, fun h => ?_⟩⟩
    · rw [State.probeReport_offline hn ho hr]
      dsimp only
      rw [h]
      rfl
    · rw [State.probeReport_offline hn ho hr]
      dsimp only
      split
      · next h => exact absurd h hok
      · next h => exact absurd h hrej
      · next h => exact absurd h hbusy
      · rfl
    · have hrep : s.probeReport n (some rep) = ((s.setNode n (some (nd.probedBack rep.turn))).resumeNode n).pendNode n := by
        rw [State.probeReport_offline hn ho hr]
        rcases h with h | h <;> (dsimp only; rw [h])
      obtain ⟨v, hv, hframe, hnone, hsome⟩ :=
        State.resumeNode_spec (State.node_setNode_self s n (some (nd.probedBack rep.turn)))
      refine ⟨_, rfl, ?_⟩
      rw [hrep, hv]
      have hpoll : (v.pendNode n).polls = v.polls := v.polls_pendNode n
      have hp (p : PollId) : (v.pendNode n).poll p = v.poll p := congrArg (·[p]) hpoll
      refine ⟨?_, fun p h0 => (hp p).trans (hnone p h0), fun p e he => ?_⟩
      · rw [hpoll]
        exact (congrArg (·.pendNode n) hframe).trans ((State.pendNode_polls _ _ n).trans
          (congrArg (fun t : State => { t with polls := v.polls }) (hnoticed _)))
      · rw [hp]
        exact hsome p e he

end Sys2Proof.Machine

/-! The completion writer and the taking of notices (R81, R89, R90, R119, R132 to R138, R144, R145, R148, R149, R188). -/

namespace Sys2Proof.Machine

section
variable {s : State} {c : CqId}

/-! ### The choice of a CQ and of the next kind (R135, R136) -/

theorem State.noticesFor_iff (s : State) (c : CqId) : s.noticesFor c = true ↔ s.noticeCq = c ∧ s.noticeList ≠ [] := by
  simp [State.noticesFor]

theorem State.isSome_nextKind (s : State) (c : CqId) :
    (s.nextKind c).isSome = true ↔ (s.cq c).held ≠ [] ∨ (s.noticeCq = c ∧ s.noticeList ≠ []) := by
  rw [← s.noticesFor_iff c, ne_eq, ← List.isEmpty_iff]
  unfold State.nextKind
  cases (s.cq c).held.isEmpty <;> cases s.noticesFor c <;> simp

theorem State.hasWork_iff (s : State) (c : CqId) : s.hasWork c = true ↔
    (s.cq c).st = .active ∧ (s.cq c).unreleased < (s.cq c).size ∧
      ((s.cq c).held ≠ [] ∨ (s.noticeCq = c ∧ s.noticeList ≠ [])) := by
  rw [State.hasWork, Bool.and_eq_true, Bool.and_eq_true, beq_iff_eq, decide_eq_true_iff, s.isSome_nextKind c, and_assoc]

theorem State.chooseCq_none (s : State) : s.chooseCq = none ↔ ∀ k, ¬((s.cq k).st = .active ∧
    (s.cq k).unreleased < (s.cq k).size ∧ ((s.cq k).held ≠ [] ∨ (s.noticeCq = k ∧ s.noticeList ≠ []))) := by
  simp only [← s.hasWork_iff]
  refine ⟨fun h k hk => ?_, fun h => ?_⟩
  · have hm : k ∈ allCqs.filter s.hasWork := List.mem_filter.mpr ⟨List.mem_finRange k, hk⟩
    rw [pickMin_none h] at hm
    cases hm
  · unfold State.chooseCq
    rw [List.filter_eq_nil_iff.mpr fun k _ => h k]
    rfl

/-- The CQ taken has work, and none with work comes before it after the position (R136). -/
theorem State.chooseCq_some (h : s.chooseCq = some c) : s.hasWork c = true ∧
    ∀ k, s.hasWork k = true → (c.val + 3 - s.writerPos.val) % 4 ≤ (k.val + 3 - s.writerPos.val) % 4 := by
  obtain ⟨hm, hmin⟩ := pickMin_some h
  exact ⟨(List.mem_filter.mp hm).2, fun k hk => hmin k (List.mem_filter.mpr ⟨List.mem_finRange k, hk⟩)⟩

theorem State.nextKind_completion (hh : (s.cq c).held ≠ [])
    (h : s.noticeCq ≠ c ∨ s.noticeList = [] ∨ (s.cq c).lastKind = .notice) : s.nextKind c = some .completion := by
  have hh' : (s.cq c).held.isEmpty = false := by simpa using hh
  unfold State.nextKind
  rw [hh']
  cases hn : s.noticesFor c with
  | false => rfl
  | true =>
    obtain ⟨h1, h2⟩ := (s.noticesFor_iff c).mp hn
    rcases h with h | h | h
    · exact absurd h1 h
    · exact absurd h h2
    · rw [h]

theorem State.nextKind_notice (hc : s.noticeCq = c) (hl : s.noticeList ≠ [])
    (h : (s.cq c).held = [] ∨ (s.cq c).lastKind = .completion) : s.nextKind c = some .notice := by
  unfold State.nextKind
  rw [(s.noticesFor_iff c).mpr ⟨hc, hl⟩]
  rcases h with h | h
  · rw [h]
    rfl
  · rw [h]
    cases (s.cq c).held <;> rfl

theorem State.working_iff (s : State) : s.working = true ↔ s.ctl = .running ∨ s.ctl = .draining := by
  rw [State.working, Bool.or_eq_true, beq_iff_eq, beq_iff_eq]

/-- Nothing begins with no choice, with an entry in progress, or outside RUNNING and DRAINING. -/
theorem State.beginEntry_nothing (h : s.chooseCq = none ∨ s.writer ≠ none ∨ (s.ctl ≠ .running ∧ s.ctl ≠ .draining)) :
    exec .writerBeginEntry s = .next s := by
  have hb : s.beginEntry = s := by
    unfold State.beginEntry
    split
    · next hw =>
      rw [Bool.and_eq_true, s.working_iff, Option.isNone_iff_eq_none] at hw
      rcases h with h | h | ⟨h1, h2⟩
      · rw [h]
      · exact absurd hw.2 h
      · exact absurd hw.1 (not_or.mpr ⟨h1, h2⟩)
    · rfl
  exact congrArg Host.Outcome.next hb

/-- The next kind of the CQ that is chosen is begun. -/
theorem State.beginEntry_chosen (hctl : s.ctl = .running ∨ s.ctl = .draining) (hw : s.writer = none)
    (hc : s.chooseCq = some c) : s.beginEntry =
      match s.nextKind c with
      | some .completion => s.beginCompletion c
      | some .notice => s.beginNotice c
      | none => s := by
  unfold State.beginEntry
  rw [s.working_iff.mpr hctl, hw, hc]
  rfl

theorem State.beginEntry_completion (hctl : s.ctl = .running ∨ s.ctl = .draining) (hw : s.writer = none)
    (hc : s.chooseCq = some c) (hk : s.nextKind c = some .completion) {ref : HeldRef} {rest : List HeldRef}
    (hh : (s.cq c).held = ref :: rest) {d : Completion} (hd : s.completionOf ref = some d) :
    exec .writerBeginEntry s = .next ((s.pushEntry c (d.bytes (s.cq c).phase)).writing c (.completion ref)) := by
  refine congrArg Host.Outcome.next ((State.beginEntry_chosen hctl hw hc).trans ?_)
  rw [hk]
  dsimp only
  unfold State.beginCompletion
  rw [hh]
  dsimp only
  rw [hd]

theorem State.beginEntry_notice (hctl : s.ctl = .running ∨ s.ctl = .draining) (hw : s.writer = none)
    (hc : s.chooseCq = some c) (hn : s.noticeCq = c) {x : Source} {rest : List Source} (hl : s.noticeList = x :: rest)
    (h : (s.cq c).held = [] ∨ (s.cq c).lastKind = .completion) :
    exec .writerBeginEntry s = .next (({ s with noticeList := rest }).takeSource c x) := by
  refine congrArg Host.Outcome.next ((State.beginEntry_chosen hctl hw hc).trans ?_)
  rw [State.nextKind_notice hn (by rw [hl]; exact List.cons_ne_nil _ _) h]
  dsimp only
  unfold State.beginNotice
  rw [hl]

/-! ### The records (R90, R145, R156, R188) -/

theorem flagsByte_completion (phase late unknown : Bool) :
    flagsByte phase false late unknown =
      le8 ((if phase then 1 else 0) + (if late then 4 else 0) + (if unknown then 8 else 0)) := by
  cases phase <;> cases late <;> cases unknown <;> rfl

theorem flagsByte_notice (phase : Bool) : flagsByte phase true false false = if phase then 3 else 2 := by
  cases phase <;> decide

theorem State.slotCompletion_counts (s : State) (x : Slot) (d : Settled) : s.slotCompletion x d =
    { tag := x.tag, sq := x.sq.val, status := d.status, replyLen := d.replyLen, code := d.replyCode
      attempts := (x.txn.map (·.attempts)).getD 0, busies := (x.txn.map (·.busies)).getD 0
      turn := d.turn, nodeState := d.nodeState, abortLate := d.abortLate, unknown := d.outcomeUnk
      sqHead := (s.sq x.sq).head } := by
  unfold State.slotCompletion
  cases x.txn <;> rfl

theorem nodeNoticeKind_code (h : Health) :
    (nodeNoticeKind h).code = if h = .online ∨ h = .suspect then 0x01 else 0x02 := by
  cases h <;> rfl

theorem lineNoticeKind_code (st : LineSt) : (lineNoticeKind st).code = if st = .fault then 0x05 else 0x06 := by
  cases st <;> rfl

end

/-- Settles O32: the choice of the CQ; the bytes of a slot's completion and of the admin result's. -/
theorem writerBeginsCompletion : Obligations.WriterBeginsCompletion := by
  intro s work
  refine ⟨s.chooseCq_none, State.beginEntry_nothing, fun c ref rest hctl hw hc hh hlast => ?_⟩
  intro begun code nodeState flags
  have hcode (st : Status) : st.code = code st := by cases st <;> rfl
  have hnode (h : Option Health) : healthCode h = nodeState h := by
    cases h with
    | none => rfl
    | some h => cases h <;> rfl
  obtain ⟨hwork, hmin⟩ := State.chooseCq_some hc
  have hk := State.nextKind_completion (by rw [hh]; exact List.cons_ne_nil _ _) hlast
  refine ⟨(s.hasWork_iff c).mp hwork, fun k hk => hmin k ((s.hasWork_iff k).mpr hk), fun i x d hr hx hd => ?_, fun d hr hd => ?_⟩
  · have hof : s.completionOf ref = some (s.slotCompletion x d) := by
      rw [hr, State.completionOf, hx]
      exact congrArg (Option.map (s.slotCompletion x)) hd
    rw [State.beginEntry_completion hctl hw hc hk hh hof, State.slotCompletion_counts, Completion.bytes]
    dsimp only
    rw [hcode, hnode, flagsByte_completion]
    rfl
  · have hof : s.completionOf ref = some (s.adminCompletion d) := by
      rw [hr, State.completionOf, hd]
      rfl
    rw [State.beginEntry_completion hctl hw hc hk hh hof, State.adminCompletion, Completion.bytes]
    dsimp only
    rw [hcode, hnode, flagsByte_completion]
    rfl

/-- Settles O33: the taking of each kind of source. -/
theorem writerBeginsNotice : Obligations.WriterBeginsNotice := by
  intro s work
  refine ⟨s.chooseCq_none, State.beginEntry_nothing, fun c x rest hctl hw hc hn hl hlast => ?_⟩
  intro begun flags health lineState error queueState
  have hflags : flagsByte (s.cq c).phase true false false = flags := flagsByte_notice _
  have hhealth (h : Health) : h.code = health h := by cases h <;> rfl
  have hline (st : LineSt) : st.code = lineState st := by cases st <;> rfl
  have herror (e : Option QueueErr) : errorCode e = error e := by
    cases e with
    | none => rfl
    | some e => cases e <;> rfl
  have hqueue (st : QueueSt) : st.code = queueState st := by cases st <;> rfl
  rw [State.beginEntry_notice hctl hw hc hn hl hlast]
  have hspot (d : CqId) (x : Cq) (hb : x.base = (s.cq d).base) (ht : x.tail = (s.cq d).tail) :
      ((s.setCq d x).cq c).addressOf ((s.setCq d x).cq c).tail =
        (s.cq c).base + BitVec.ofNat 32 (16 * (s.cq c).tail) := by
    by_cases h : d = c
    · subst h
      rw [State.cq_setCq_self, Cq.addressOf, hb, ht]
    · rw [State.cq_setCq_ne s h]
      rfl
  refine ⟨fun n nd hx hnd => ?_, fun l hx => ?_, fun q hx => ?_, fun d hx => ?_⟩ <;> subst hx
  · have ht : ({ s with noticeList := rest }).takeSource c (.node n) =
        begun (s.setNode n (some { nd with noticeMark := false, transitions := 0 })) (nodeNotice n nd (s.cq c).phase) := by
      unfold State.takeSource
      dsimp only
      rw [show ({ s with noticeList := rest } : State).node n = some nd from hnd]
      rfl
    rw [ht, nodeNotice, noticeBytes, nodeNoticeKind_code, hhealth, hflags]
    rfl
  · have ht : ({ s with noticeList := rest }).takeSource c (.line l) =
        begun (s.setLine l { s.line l with transitions := 0 }) (lineNotice l (s.line l) (s.cq c).phase) := rfl
    rw [ht, lineNotice, noticeBytes, lineNoticeKind_code, hline, hflags]
    rfl
  · have ht : ({ s with noticeList := rest }).takeSource c (.sq q) =
        begun (s.setSq q { s.sq q with noticeMark := false }) (sqNotice q (s.sq q) (s.cq c).phase) := rfl
    rw [ht, sqNotice, noticeBytes, herror, hqueue, hflags]
    rfl
  · have ht : ({ s with noticeList := rest }).takeSource c (.cq d) =
        begun (s.setCq d { s.cq d with noticeMark := false }) (cqNotice d (s.cq d) (s.cq c).phase) := by
      have h := hspot d { s.cq d with noticeMark := false } rfl rfl
      refine Eq.trans ?_ (congrArg (fun a : Word => ({ s.setCq d { s.cq d with noticeMark := false } with
          noticeList := rest, writer := some { cq := c, work := .notice }, writerPos := c
          quWrites := s.quWrites ++ [{ addr := a, data := cqNotice d (s.cq d) (s.cq c).phase, use := .entry }] } : State)) h)
      rfl
    rw [ht, cqNotice, noticeBytes, herror, hqueue, hflags]
    rfl

/-! ### The posting of a poll entry (R119, R121) -/

section
variable {s : State} {c : CqId} {p : PollId} {n : NodeId} {st : PollSt} {len : Nat} {gone : Bool} {w : BusWrite}

theorem State.pollDataWritten_eq (hw : s.writer = some { cq := c, work := .pollData p n st len gone }) (hb : s.nuWrite = some w)
    (a : WriteAnswer) : s.pollDataWritten a =
      let s1 := { s with nuWrite := none, writer := some { cq := c, work := .notice } }
      match a with
      | .accepted => s1.pushEntry c (pollChangeNotice p n st len (s.cq c).phase)
      | .error => (if gone then s1 else s1.faultPoll p).pushEntry c (pollFaultNotice p n len (s.cq c).phase) := by
  unfold State.pollDataWritten
  rw [hb, hw] <;> cases a <;> rfl

theorem State.faultPoll_left (h : s.poll p = none ∨ ∃ e, s.poll p = some e ∧ e.removal = true) : s.faultPoll p = s := by
  unfold State.faultPoll
  rcases h with h | ⟨e, h, hr⟩
  · rw [h]
  · rw [h]
    exact if_pos hr

/-- The entry that the failed write faults, and its node's open exchange, are all that changes. -/
theorem State.faultPoll_some {e : Poll} (he : s.poll p = some e) (hr : e.removal = false) :
    s.faultPoll p = { s with polls := (s.faultPoll p).polls, nodes := (s.faultPoll p).nodes } ∧
    (s.faultPoll p).poll p =
      some { e with st := .faulted, due := false, inst := none, baseline := false, nextDue := none } ∧
    (∀ k, k ≠ p → (s.faultPoll p).poll k = s.poll k) ∧
    ∀ m, (s.faultPoll p).node m = (s.node m).map fun r =>
      if m = e.node ∧ e.inst ≠ none ∧ r.openX = some (.poll p) then { r with openX := none } else r := by
  have hf : s.faultPoll p = (s.withdraw p).modPoll p fun x => { x with st := .faulted } := by
    unfold State.faultPoll
    rw [he]
    exact if_neg (by rw [hr]; exact Bool.false_ne_true)
  rw [hf]
  refine ⟨?_, ?_, fun k hk => ?_, fun m => ?_⟩
  · unfold State.modPoll State.setPoll
    dsimp only
    rw [s.withdraw_frame p]
  · rw [State.modPoll, State.poll_setPoll_self, State.poll_withdraw, if_pos rfl, he]
    rfl
  · rw [State.modPoll, State.poll_setPoll_ne _ hk.symm, State.poll_withdraw, if_neg hk.symm]
  · refine (s.node_withdraw p m).trans ?_
    rw [he]
    dsimp only
    refine congrArg (fun f => Option.map f (s.node m)) (funext fun r => ?_)
    rw [Node.dropPoll_eq, ← ite_and]
    exact if_congr (by tauto) rfl rfl

end

theorem pollChangeNotice_eq (p : PollId) (n : NodeId) (st : PollSt) (len : Nat) (phase : Bool) :
    pollChangeNotice p n st len phase =
      [0x03, le8 p.val, le8 n.val, st.code, le8 len, 0, 0, 0, 0, 0, 0, if phase then 3 else 2, 0, 0, 0, 0] := by
  rw [pollChangeNotice, noticeBytes, flagsByte_notice]
  rfl

theorem pollFaultNotice_eq (p : PollId) (n : NodeId) (len : Nat) (phase : Bool) :
    pollFaultNotice p n len phase =
      [0x04, le8 p.val, le8 n.val, 0x03, le8 len, 0, 0, 0, 0, 0, 0, if phase then 3 else 2, 0, 0, 0, 0] := by
  rw [pollFaultNotice, noticeBytes, flagsByte_notice]
  rfl

/-- Settles O34: the beginning with and without a data write; the end of the data write by its answer. -/
theorem pollPosting : Obligations.PollPosting := by
  have hstate (st : PollSt) : st.code = match st with | .active => 0x01 | .suspended => 0x02 | .faulted => 0x03 := by
    cases st <;> rfl
  refine ⟨fun s => ?_, fun s c p n st len gone w hw hb => ?_⟩
  · intro work
    refine ⟨s.chooseCq_none, State.beginEntry_nothing, fun c p e rest hctl hw hc hn hl hlast he => ?_⟩
    intro spot flags n
    let posted : List Byte → State := fun data =>
      { s.setPoll p (some { e with change := false }) with
        noticeList := rest, writerPos := c, writer := some { cq := c, work := .notice }
        quWrites := s.quWrites ++ [{ addr := spot, use := .entry, data := data }] }
    have ht : ({ s with noticeList := rest }).takeSource c (.poll p) =
        if e.st = .faulted then posted (pollFaultNotice p e.node n (s.cq c).phase)
        else if n = 0 then posted (pollChangeNotice p e.node e.st 0 (s.cq c).phase)
        else
          { s.setPoll p (some { e with change := false }) with
            noticeList := rest, writerPos := c
            writer := some { cq := c, work := .pollData p e.node e.st n false }
            nuWrite := some { addr := e.buffer, data := e.stored, use := .pollData } } := by
      unfold State.takeSource
      dsimp only
      rw [show ({ s with noticeList := rest } : State).poll p = some e from he]
      rfl
    have hlen : n = 0 ↔ e.stored = [] := List.length_eq_zero_iff
    have hfault (hf : e.st = .faulted) : pollFaultNotice p e.node n (s.cq c).phase =
        [0x04, le8 p.val, le8 e.node.val, e.st.code, le8 n, 0, 0, 0, 0, 0, 0, flags, 0, 0, 0, 0] := by
      rw [hf]
      exact pollFaultNotice_eq ..
    have hchange : pollChangeNotice p e.node e.st 0 (s.cq c).phase =
        [0x03, le8 p.val, le8 e.node.val, e.st.code, le8 0, 0, 0, 0, 0, 0, 0, flags, 0, 0, 0, 0] := pollChangeNotice_eq ..
    rw [State.beginEntry_notice hctl hw hc hn hl hlast, ht]
    refine congrArg Host.Outcome.next ?_
    by_cases hf : e.st = .faulted
    · rw [if_pos hf, if_neg fun h => h.1 hf, if_pos hf, hfault hf, hstate] <;> rfl
    · rw [if_neg hf, if_neg hf]
      by_cases h0 : e.stored = []
      · rw [if_pos (hlen.mpr h0), if_neg fun h => h.2 h0, hchange, hlen.mpr h0, hstate] <;> rfl
      · rw [if_neg (mt hlen.mp h0), if_pos ⟨hf, h0⟩]
  · intro spot flags
    let s1 : State := { s with nuWrite := none, writer := some { cq := c, work := .notice } }
    have hok : exec (.pollDataWriteDone .accepted) s = .next (s1.pushEntry c (pollChangeNotice p n st len (s.cq c).phase)) :=
      congrArg Host.Outcome.next (State.pollDataWritten_eq hw hb .accepted)
    have herr : exec (.pollDataWriteDone .error) s =
        .next ((if gone then s1 else s1.faultPoll p).pushEntry c (pollFaultNotice p n len (s.cq c).phase)) :=
      congrArg Host.Outcome.next (State.pollDataWritten_eq hw hb .error)
    let bytes : List Byte := [0x04, le8 p.val, le8 n.val, 0x03, le8 len, 0, 0, 0, 0, 0, 0, flags, 0, 0, 0, 0]
    have hfault : pollFaultNotice p n len (s.cq c).phase = bytes := pollFaultNotice_eq ..
    rw [hok, herr, pollChangeNotice_eq, hfault, hstate]
    refine ⟨rfl, fun h => ?_, fun e hg he hr => ?_⟩
    · have hs1 : (if gone then s1 else s1.faultPoll p) = s1 := by
        rcases h with h | h
        · exact if_pos h
        · rw [State.faultPoll_left (s := s1) h, ite_self]
      rw [hs1]
      rfl
    · obtain ⟨hframe, hpoll, hpolls, hnodes⟩ := State.faultPoll_some (s := s1) he hr
      refine ⟨_, rfl, ?_⟩
      rw [if_neg (by rw [hg]; exact Bool.false_ne_true)]
      exact ⟨hpoll, congrArg (fun t : State => t.pushEntry c bytes) hframe, hpolls, hnodes⟩

/-! ### The end of an entry and of a reply data write (R81, R89, R90, R133, R138, R148, R149) -/

section
variable {s : State} {c : CqId} {w : EntryWork} {b : BusWrite} {more : List BusWrite}

theorem State.entryEnds_of (hw : s.writer = some { cq := c, work := w }) (hq : s.quWrites = b :: more) (hb : b.use = .entry)
    (hk : w = .notice ∨ ∃ ref, w = .completion ref) : s.entryEnds = some (c, w) := by
  obtain ⟨addr, data, use⟩ := b
  cases hb
  unfold State.entryEnds
  rw [hq, hw]
  rcases hk with rfl | ⟨ref, rfl⟩ <;> rfl

/-- The descriptor after an entry, its ring and its aggregator at once (R133, R148, R149). -/
theorem Cq.written_eq (d : Cq) (k : EntryKind) : d.written k =
    let n := min 255 (d.count + 1)
    let starts := d.count = 0 ∧ d.timer = .stopped
    { d with
      tail := (d.tail + 1) % d.size, phase := if d.tail + 1 = d.size then !d.phase else d.phase
      unreleased := d.unreleased + 1, lastKind := k, count := n
      held := match k with | .completion => d.held.tail | .notice => d.held
      timer := if starts ∧ d.delay = 0 then AggTimer.expired else if starts then .running 0 else d.timer
      cause := d.cause || (d.irqEnable && (decide (d.threshold ≤ n) || decide (starts ∧ d.delay = 0))) } := by
  have hstarts : (decide (d.count = 0) && d.timer == .stopped) = decide (d.count = 0 ∧ d.timer = .stopped) := by
    rw [Bool.eq_iff_iff]
    simp
  unfold Cq.written Cq.counted
  dsimp only
  rw [hstarts, ← Bool.decide_and]
  simp only [decide_eq_true_eq] <;> cases k <;> rfl

end

/-- Settles O35: the three kinds of work that an entry can be. -/
theorem entryWritten : Obligations.EntryWritten := by
  intro s c w b more hw hq hb d base s1
  have hbase (k : EntryKind) : d.written k = base k :=
    (Cq.written_eq d k).trans (by cases k <;> rfl)
  have hpop : ({ s.popWrite with writer := none } : State) = s1 := by
    unfold State.popWrite
    rw [hq]
    rfl
  have hmod (k : EntryKind) : s1.modCq c (·.written k) = s1.setCq c (base k) := congrArg (s1.setCq c) (hbase k)
  have hrun : exec .entryWriteDone s = .next s.entryWritten := rfl
  refine ⟨fun i h => ?_, fun h => ?_, fun h => ?_⟩ <;> subst h <;> rw [hrun] <;> refine congrArg Host.Outcome.next ?_
  · unfold State.entryWritten
    rw [State.entryEnds_of hw hq hb (.inr ⟨_, rfl⟩)]
    dsimp only
    rw [hpop, hmod]
    rfl
  · unfold State.entryWritten
    rw [State.entryEnds_of hw hq hb (.inr ⟨_, rfl⟩)]
    dsimp only
    rw [hpop, hmod]
    rfl
  · unfold State.entryWritten
    rw [State.entryEnds_of hw hq hb (.inl rfl)]
    dsimp only
    rw [hpop, hmod]

/-- Settles O36: the entry of either kind. -/
theorem entryRefused : Obligations.EntryRefused := by
  intro s c w b more hw hq hb hk
  have hfail : exec .entryWriteError s = .next
      (s.enterFatal (if w = .notice then .noticeWrite else .completionWrite)) := by
    refine congrArg Host.Outcome.next ?_
    unfold State.entryFailed
    rw [State.entryEnds_of hw hq hb hk]
    rcases hk with rfl | ⟨ref, rfl⟩ <;> rfl
  refine ⟨_, hfail, rfl, rfl, rfl, ?_, ⟨rfl, rfl, rfl, rfl, rfl⟩, fun l => ?_, rfl⟩
  · exact Bool.or_true _
  · match l with
    | 0 | 1 | 2 | 3 => rfl

/-- Settles O37: the slot is found by the write's use, its node by the key of its transaction. -/
theorem replyDataWritten : Obligations.ReplyDataWritten := by
  intro s i x t d b more a hq hb hx hst ht hd
  refine congrArg Host.Outcome.next ?_
  have hpop : s.popWrite = { s with quWrites := more } := by
    unfold State.popWrite
    rw [hq]
    rfl
  have hheld := State.enterHeld_some (s := { s with quWrites := more }) (i := i) hx (d.atHeld a (s.healthOfTxn t))
  have hrun : s.replyWritten a = (s.popWrite.enterHeld i (d.atHeld a (s.healthOfTxn t))).closing := by
    obtain ⟨addr, data, use⟩ := b
    obtain ⟨st, q, cls, tag, txn, se⟩ := x
    cases hb
    cases hst
    cases ht
    cases hd
    unfold State.replyWritten
    rw [hq]
    dsimp only
    rw [hx]
  rw [hrun, hpop, hheld]
  cases a <;> rfl

end Sys2Proof.Machine

/-! The expiries of the timebase (R57, R58, R83, R98, R109, R148, R149). -/

namespace Sys2Proof.Machine

theorem State.live_iff_ctl (s : State) : s.live = true ↔ s.ctl = .running ∨ s.ctl = .draining ∨ s.ctl = .stopped := by
  cases h : s.ctl <;> simp [State.live, h]

theorem msReached_iff (now t : Word) : msReached now t = true ↔ (now - t).toNat < 2147483648 := decide_eq_true_iff

section
variable {s : State} {i : SlotId} {x : Slot} {t : Txn} {n : NodeId} {r : Node} {p : PollId} {e : Poll} {c : CqId}

/-! ### A deadline (R83) -/

theorem State.deadlineOf_some (hx : s.slot i = some x) (ht : x.txn = some t) : s.deadlineOf i =
    if x.st = .pending ∨ (x.st = .active ∧ x.settled = none) then t.deadline else none := by
  obtain ⟨st, q, cls, tag, txn, se⟩ := x
  cases ht
  unfold State.deadlineOf
  rw [hx]
  cases st <;> cases se <;> rfl

theorem State.deadlineOf_none (h : ∀ x t, s.slot i = some x → x.txn = some t → t.deadline = none) : s.deadlineOf i = none := by
  unfold State.deadlineOf
  split
  · next hx => exact h _ _ hx rfl
  · next hx => exact h _ _ hx rfl
  · rfl

theorem State.deadlineEnds_of {d : Word} (h : s.deadlineOf i = some d) : s.deadlineEnds i =
    if s.live = true ∧ msReached s.ms d = true then (s.expire i).closing else s := by
  unfold State.deadlineEnds
  rw [h]

theorem State.deadlineEnds_none (h : s.deadlineOf i = none) : s.deadlineEnds i = s := by
  unfold State.deadlineEnds
  rw [h]

theorem State.expire_pending (hx : s.slot i = some x) (hst : x.st = .pending) :
    s.expire i = s.complete i .expired 0 0 false := by
  unfold State.expire
  exact if_pos (by simp [State.isPending, hx, hst])

theorem State.expire_active (hx : s.slot i = some x) (ht : x.txn = some t) (hst : x.st = .active) :
    s.expire i = s.setSlot i (some { x with txn := some { t with latePass := true } }) := by
  unfold State.expire
  rw [if_neg (by simp [State.isPending, hx, hst]), State.modTxn, State.modSlot_some _ hx, ht]
  rfl

/-! ### The other expiries, with a time set (R57, R58, R109, R148, R149) -/

theorem State.holdOffEnds_some {d : Word} (hn : s.node n = some r) (hd : r.holdOffEnd = some d) : s.holdOffEnds n =
    if s.live = true ∧ msReached s.ms d = true then s.setNode n (some { r with holdOffEnd := none }) else s := by
  unfold State.holdOffEnds
  rw [hn, Option.bind_some, hd, State.modNode_some _ hn]

theorem State.probeFallsDue_some {d : Word} (hn : s.node n = some r) (hd : r.nextProbe = some d) : s.probeFallsDue n =
    if (r.health = .offline ∧ s.probing r.line n = false) ∧ s.live = true ∧ msReached s.ms d = true then
      s.setNode n (some { r with probeDue := true })
    else s := by
  have ht : s.probeTime n = if r.health = .offline ∧ s.probing r.line n = false then some d else none := by
    unfold State.probeTime
    rw [hn, ← hd]
  unfold State.probeFallsDue
  rw [ht]
  by_cases h : r.health = .offline ∧ s.probing r.line n = false
  · rw [if_pos h]
    dsimp only
    rw [State.modNode_some _ hn]
    exact if_congr (and_iff_right h).symm rfl rfl
  · rw [if_neg h, if_neg fun hh => h hh.1]

theorem State.periodEnds_some {d : Word} (he : s.poll p = some e) (hd : e.nextDue = some d) : s.periodEnds p =
    if (e.st = .active ∧ e.removal = false) ∧ s.live = true ∧ msReached s.ms d = true then
      s.setPoll p (some (e.expired d))
    else s := by
  unfold State.periodEnds Poll.dueTime
  rw [he, Option.bind_some]
  by_cases h : e.st = .active ∧ e.removal = false
  · rw [if_pos h, hd]
    dsimp only
    rw [State.modPoll, he]
    exact if_congr (and_iff_right h).symm rfl rfl
  · rw [if_neg h, if_neg fun hh => h hh.1]

theorem Poll.expired_eq (e : Poll) (d : Word) : e.expired d =
    { e with nextDue := some (d + BitVec.ofNat 32 e.period)
             due := e.due || e.inst.isNone
             missed := if e.due = true ∨ e.inst.isSome = true then min 255 (e.missed + 1) else e.missed } := by
  unfold Poll.expired
  simp only [Bool.or_eq_true]
  rfl

theorem State.aggregatorEnds_some {k : Nat} (hk : (s.cq c).timer = .running k) : s.aggregatorEnds c =
    if s.live = true ∧ (s.cq c).delay ≤ k then s.modCq c Cq.timerEnds else s := by
  unfold State.aggregatorEnds
  rw [hk]

/-! ### In OFF and FATAL, and with no time set -/

theorem State.deadlineEnds_not_live (h : ¬s.live = true) (i : SlotId) : s.deadlineEnds i = s := by
  unfold State.deadlineEnds
  split
  · exact if_neg fun hh => h hh.1
  · rfl

theorem State.holdOffEnds_not_live (h : ¬s.live = true) (n : NodeId) : s.holdOffEnds n = s := by
  unfold State.holdOffEnds
  split
  · exact if_neg fun hh => h hh.1
  · rfl

theorem State.probeFallsDue_not_live (h : ¬s.live = true) (n : NodeId) : s.probeFallsDue n = s := by
  unfold State.probeFallsDue
  split
  · exact if_neg fun hh => h hh.1
  · rfl

theorem State.periodEnds_not_live (h : ¬s.live = true) (p : PollId) : s.periodEnds p = s := by
  unfold State.periodEnds
  split
  · exact if_neg fun hh => h hh.1
  · rfl

theorem State.aggregatorEnds_not_live (h : ¬s.live = true) (c : CqId) : s.aggregatorEnds c = s := by
  unfold State.aggregatorEnds
  split
  · exact if_neg fun hh => h hh.1
  · rfl

theorem State.holdOffEnds_none (h : ∀ r, s.node n = some r → r.holdOffEnd = none) : s.holdOffEnds n = s := by
  have hb : (s.node n).bind (·.holdOffEnd) = none := by
    cases hn : s.node n with
    | none => rfl
    | some r => exact h r hn
  unfold State.holdOffEnds
  rw [hb]

theorem State.probeFallsDue_none (h : ∀ r, s.node n = some r → r.nextProbe = none) : s.probeFallsDue n = s := by
  have hb : s.probeTime n = none := by
    unfold State.probeTime
    cases hn : s.node n with
    | none => rfl
    | some r =>
      dsimp only
      rw [h r hn, ite_self]
  unfold State.probeFallsDue
  rw [hb]

theorem State.periodEnds_none (h : ∀ e, s.poll p = some e → e.nextDue = none) : s.periodEnds p = s := by
  have hb : (s.poll p).bind (·.dueTime) = none := by
    cases he : s.poll p with
    | none => rfl
    | some e =>
      rw [Option.bind_some, Poll.dueTime, h e he, ite_self]
  unfold State.periodEnds
  rw [hb]

theorem State.aggregatorEnds_none (h : ∀ k, (s.cq c).timer ≠ .running k) : s.aggregatorEnds c = s := by
  unfold State.aggregatorEnds
  split
  · next hk => exact absurd hk (h _)
  · rfl

/-! ### A promotion (R98) -/

theorem State.promoteNode_picks {l : LineId} (hn : s.node n = some r) (h : s.Picks l n) :
    s.promoteNode l n = s.setNode n (some r.promotes) := by
  obtain ⟨c, hc, h2⟩ := h
  unfold State.promoteNode
  rw [hc]
  exact (if_pos h2).trans (State.modNode_some _ hn)

theorem State.promoteNode_not {l : LineId} (h : ¬s.Picks l n) : s.promoteNode l n = s := by
  unfold State.promoteNode
  split
  · next c hc => exact if_neg fun h2 => h ⟨c, hc, h2⟩
  · rfl

theorem State.probePromotes_some (hn : s.node n = some r) : s.probePromotes n =
    if s.working = true ∧ (s.line r.line).st = .idle then s.promoteNode r.line n else s := by
  unfold State.probePromotes
  rw [hn]

theorem State.probePromotes_not_live (h : ¬s.live = true) (n : NodeId) : s.probePromotes n = s := by
  unfold State.probePromotes
  split
  · refine if_neg fun hh => h ((s.live_iff_ctl).mpr ?_)
    exact ((s.working_iff).mp hh.1).elim .inl fun hd => .inr (.inl hd)
  · rfl

theorem State.probePromotes_none (h : s.node n = none) : s.probePromotes n = s := by
  unfold State.probePromotes
  rw [h]

end

/-- Settles O50: each expiry outside the live states, with its time set, and without one; a promotion by what the choice
finds. -/
theorem expiries : Obligations.Expiries := by
  intro s live reached
  have hlive : s.live = true ↔ live := s.live_iff_ctl
  have hms (d : Word) : msReached s.ms d = true ↔ reached d := msReached_iff s.ms d
  refine ⟨fun hl => ?_, fun hl => ?_, fun n r d hn hd hctl ho hst hstop hatt hp hdue => ?_, fun n r hn h => ?_,
    fun n h => congrArg _ (State.holdOffEnds_none h), fun n h => congrArg _ (State.probeFallsDue_none h),
    fun n h => congrArg _ (State.probePromotes_none h), fun i h => congrArg _ (State.deadlineEnds_none (State.deadlineOf_none h)),
    fun p h => congrArg _ (State.periodEnds_none h), fun c h => congrArg _ (State.aggregatorEnds_none h)⟩
  · have hl' : ¬s.live = true := mt hlive.mp hl
    exact ⟨fun i => congrArg _ (State.deadlineEnds_not_live hl' i),
      fun n => ⟨congrArg _ (State.holdOffEnds_not_live hl' n), congrArg _ (State.probeFallsDue_not_live hl' n),
        congrArg _ (State.probePromotes_not_live hl' n)⟩,
      fun p => congrArg _ (State.periodEnds_not_live hl' p), fun c => congrArg _ (State.aggregatorEnds_not_live hl' c)⟩
  · have hl' : s.live = true := hlive.mpr hl
    refine ⟨fun i x t d hx ht hd => ⟨fun hr hst => ?_, fun hr hst hse => ?_, fun h => ?_⟩, fun n r d hn hd => ?_,
      fun n r d hn hd => ?_, fun p e d he hd => ?_, fun c k hk => ?_⟩ <;> refine congrArg Host.Outcome.next ?_
    · have hof : s.deadlineOf i = some d := by rw [State.deadlineOf_some hx ht, if_pos (.inl hst), hd]
      rw [State.deadlineEnds_of hof, if_pos ⟨hl', (hms d).mpr hr⟩, State.expire_pending hx hst]
    · have hof : s.deadlineOf i = some d := by rw [State.deadlineOf_some hx ht, if_pos (.inr ⟨hst, hse⟩), hd]
      rw [State.deadlineEnds_of hof, if_pos ⟨hl', (hms d).mpr hr⟩, State.expire_active hx ht hst]
    · by_cases hc : x.st = .pending ∨ (x.st = .active ∧ x.settled = none)
      · have hof : s.deadlineOf i = some d := by rw [State.deadlineOf_some hx ht, if_pos hc, hd]
        have hno : ¬reached d := by
          rcases h with h | ⟨ha, hs⟩ | h | h
          · exact h
          · rcases hc with hc | hc
            · cases ha.symm.trans hc
            · exact absurd hc.2 hs
          · rcases hc with hc | hc
            · cases h.symm.trans hc
            · cases h.symm.trans hc.1
          · rcases hc with hc | hc
            · cases h.symm.trans hc
            · cases h.symm.trans hc.1
        rw [State.deadlineEnds_of hof, if_neg fun hh => hno ((hms d).mp hh.2)]
      · exact State.deadlineEnds_none (by rw [State.deadlineOf_some hx ht, if_neg hc])
    · rw [State.holdOffEnds_some hn hd]
      exact if_congr ((and_iff_right hl').trans (hms d)) rfl rfl
    · rw [State.probeFallsDue_some hn hd]
      refine if_congr ?_ rfl rfl
      rw [State.probing_iff, hms]
      exact ⟨fun ⟨⟨ho, hp⟩, _, hr⟩ => ⟨hr, ho, hp⟩, fun ⟨hr, ho, hp⟩ => ⟨⟨ho, hp⟩, hl', hr⟩⟩
    · rw [State.periodEnds_some he hd, Poll.expired_eq]
      refine if_congr ?_ rfl rfl
      rw [hms]
      exact ⟨fun ⟨hc, _, hr⟩ => ⟨hr, hc⟩, fun ⟨hr, hc⟩ => ⟨hc, hl', hr⟩⟩
    · rw [State.aggregatorEnds_some hk]
      exact if_congr (and_iff_right hl') rfl rfl
  · have hpick : s.Picks r.line n := (State.picks_iff hn).mpr
      ⟨⟨hn, rfl, ho, .inr ⟨d, hd, (hms d).mpr hdue⟩, hatt, hctl, hstop⟩, .inr ⟨d, hd, (hms _).mpr hp⟩⟩
    refine congrArg Host.Outcome.next ((State.probePromotes_some hn).trans ?_)
    rw [if_pos ⟨(s.working_iff).mpr (.inl hctl), hst⟩, State.promoteNode_picks hn hpick]
    rfl
  · refine congrArg Host.Outcome.next ((State.probePromotes_some hn).trans ?_)
    split
    · next hst =>
      refine State.promoteNode_not fun hpick => ?_
      obtain ⟨⟨-, -, ho, -, hatt, hctl, hstop⟩, hprom⟩ := (State.picks_iff hn).mp hpick
      rcases h with h | h | h | h | ⟨a, ha, hown⟩ | ⟨hno, hlate⟩
      · exact h hctl
      · exact h ho
      · exact h hst.2
      · exact Bool.false_ne_true (hstop.symm.trans h)
      · exact hatt a ha hown
      · rcases hprom with hprom | ⟨d, hd, hr⟩
        · exact Bool.false_ne_true (hno.symm.trans hprom)
        · exact hlate d hd ((hms _).mp hr)
    · rfl

end Sys2Proof.Machine

/-! The conditions that come to hold, as rows and in the step of another command (R37, R47, R117, R121, R129, R131, R143,
R151, R153). -/

namespace Sys2Proof.Machine

/-- A line that can drain sends nothing: what its wire shows is the space or the character in progress (R37, R39). -/
theorem Line.stopped_of_drainable {x : Line} (h : x.st = .idle ∨ x.st = .guard ∨ x.st = .settle ∨ x.st = .fault) :
    x.stopped = { Line.offWith x.cfg x.transitions (x.space || x.inChar) with driver := x.driver } := by
  have hs : x.sendingNow = false := by
    rcases h with h | h | h | h <;> simp [Line.sendingNow, Line.cutSending, h]
  rw [Line.stopped, Line.toOff, Line.low, hs, Bool.not_false, Bool.and_true]

section
variable (s : State)

theorem State.detachedRuns_iff (r : Node) : s.detachedRuns r = false ↔
    ∀ i x t, s.slot i = some x → x.txn = some t → x.st = .active → x.settled = none →
      ¬(t.detached = true ∧ t.kind = .exchange ∧ t.line = r.line ∧ t.address = r.address) := by
  unfold State.detachedRuns
  rw [List.any_eq_false]
  refine ⟨fun h i x t hx ht hst hse hk => h i (mem_allSlots i) ?_, fun h i _ => ?_⟩
  · obtain ⟨st, q, cls, tag, txn, se⟩ := x
    cases ht
    cases hst
    cases hse
    simp [hx, hk]
  · split
    · next q cls tag t hx => simpa [and_assoc] using h i _ t hx rfl rfl rfl
    · exact nofun

theorem State.vacantDue_iff (n : NodeId) : s.vacantDue n = true ↔ ∃ r, s.node n = some r ∧ r.removal = true ∧
    r.pendingList = [] ∧ s.probing r.line n = false ∧ s.detachedRuns r = false := by
  unfold State.vacantDue
  cases s.node n <;> simp [List.isEmpty_iff, and_assoc]

theorem State.pollEmptyDue_iff (p : PollId) : s.pollEmptyDue p = true ↔
    ∃ e, s.poll p = some e ∧ e.removal = true ∧ e.running = false := by
  unfold State.pollEmptyDue
  cases s.poll p <;> simp

theorem State.cqAbsentDue_iff_forall (c : CqId) : s.cqAbsentDue c = true ↔
    (s.cq c).st = .deleting ∧ ∀ e, s.writer = some e → e.cq ≠ c := by
  rw [s.cqAbsentDue_iff c]
  cases s.writer <;> simp

theorem State.sqAbsentDue_iff_forall (q : SqId) : s.sqAbsentDue q = true ↔
    (s.sq q).st = .deleting ∧ ∀ i x, s.slot i = some x → x.sq ≠ q := by
  rw [s.sqAbsentDue_iff q]
  simp only [not_exists, not_and, ne_eq]

/-! ### What a condition closes -/

theorem State.closeObj_sq (q : SqId) : s.closeObj (.sq q) = if s.sqAbsentDue q then s.sqAbsent q else s := rfl
theorem State.closeObj_cq (c : CqId) : s.closeObj (.cq c) = if s.cqAbsentDue c then s.cqAbsent c else s := rfl
theorem State.closeObj_line (l : LineId) : s.closeObj (.line l) = if s.lineOffDue l then s.lineOff l else s := rfl
theorem State.closeObj_node (n : NodeId) : s.closeObj (.node n) = if s.vacantDue n then s.nodeVacant n else s := rfl
theorem State.closeObj_poll (p : PollId) : s.closeObj (.poll p) = if s.pollEmptyDue p then s.pollEmpty p else s := rfl

theorem State.lineOff_of_drainable {l : LineId}
    (h : (s.line l).st = .idle ∨ (s.line l).st = .guard ∨ (s.line l).st = .settle ∨ (s.line l).st = .fault) :
    s.lineOff l = ((s.setLine l { Line.offWith (s.line l).cfg (s.line l).transitions
      ((s.line l).space || (s.line l).inChar) with driver := (s.line l).driver }).suspendLine l).makeReady (.line l) := by
  rw [State.lineOff, State.modLine, Line.stopped_of_drainable h]

theorem State.settle_live {s : State} (h : s.live = true) (x : Source) : s.settle x = (s.closeObj x).readyResult := if_pos h

theorem Entry.dropPoll_eq (e : Entry) (p : PollId) : e.dropPoll p =
    match e.work with
    | .pollData p' n st len lost => { e with work := .pollData p' n st len (lost || p' == p) }
    | _ => e := by
  obtain ⟨c, w⟩ := e
  cases w <;> rfl

/-- A reference that leaves the list is not on it. -/
theorem not_mem_filter_ne (l : List Source) (x : Source) : x ∉ l.filter (· != x) := by simp

end

/-- Settles O51: what a line suspends; the rows for conditions; the closing of an object exactly where its condition
holds. -/
theorem conditionsComeToHold : Obligations.ConditionsComeToHold := by
  refine ⟨fun s l => ⟨_, rfl, s.suspendLine_spec l⟩, fun s hctl => ?_, fun s => ?_⟩
  · have hl : s.live = true := State.live_of hctl
    refine ⟨fun l hstop hatt hst hlist hnodes => ?_, fun n r hn hr hlist hp hd => ?_, fun p e he hr hrun => ?_,
      fun q hst hno => ?_, fun c hst hno => ?_⟩
    · have hdue := State.lineOffDue_iff.mpr ⟨hstop, hatt, hst, hlist, hnodes⟩
      refine congrArg Host.Outcome.next ((State.settle_live hl _).trans ?_)
      rw [s.closeObj_line l, if_pos hdue, s.lineOff_of_drainable hst]
    · have hdue := (s.vacantDue_iff n).mpr ⟨r, hn, hr, hlist, hp, hd⟩
      refine congrArg Host.Outcome.next ((State.settle_live hl _).trans ?_)
      rw [s.closeObj_node n, if_pos hdue, State.nodeVacant]
    · have hdue := (s.pollEmptyDue_iff p).mpr ⟨e, he, hr, hrun⟩
      refine ⟨congrArg Host.Outcome.next ((State.settle_live hl _).trans ?_), s.poll_setPoll_self p none,
        not_mem_filter_ne _ _⟩
      rw [s.closeObj_poll p, if_pos hdue]
    · have hdue := (s.sqAbsentDue_iff_forall q).mpr ⟨hst, hno⟩
      refine ⟨congrArg Host.Outcome.next ((State.settle_live hl _).trans ?_),
        congrArg Sq.st (s.sq_setSq_self q Sq.absent), not_mem_filter_ne _ _⟩
      rw [s.closeObj_sq q, if_pos hdue]
    · have hdue := (s.cqAbsentDue_iff_forall c).mpr ⟨hst, hno⟩
      have hcq : (s.cqAbsent c).cq c = Cq.absent := s.cq_setCq_self c Cq.absent
      refine ⟨congrArg Host.Outcome.next ((State.settle_live hl _).trans ?_), congrArg Cq.st hcq, congrArg Cq.cause hcq,
        congrArg Cq.count hcq, congrArg Cq.timer hcq, not_mem_filter_ne _ _⟩
      rw [s.closeObj_cq c, if_pos hdue]
  · intro ready gone
    refine ⟨fun q => ⟨rfl, fun hst hno => ?_, fun h => ?_⟩, fun c => ⟨rfl, fun hst hno => ?_, fun h => ?_⟩,
      fun l => ?_, fun n => ?_, fun p => ?_⟩
    · exact if_pos ((s.sqAbsentDue_iff_forall q).mpr ⟨hst, hno⟩)
    · refine if_neg fun hd => ?_
      obtain ⟨hst, hno⟩ := (s.sqAbsentDue_iff_forall q).mp hd
      rcases h with h | ⟨i, x, hx, hq⟩
      · exact h hst
      · exact hno i x hx hq
    · exact if_pos ((s.cqAbsentDue_iff_forall c).mpr ⟨hst, hno⟩)
    · refine if_neg fun hd => ?_
      obtain ⟨hst, hno⟩ := (s.cqAbsentDue_iff_forall c).mp hd
      rcases h with h | ⟨e, he, hq⟩
      · exact h hst
      · exact hno e he hq
    · intro due
      have hdue : s.lineOffDue l = true ↔ due := State.lineOffDue_iff
      refine ⟨fun h => (if_pos (hdue.mpr h)).trans ?_, fun h => if_neg (mt hdue.mp h)⟩
      obtain ⟨-, -, hst, -, -⟩ := h
      exact s.lineOff_of_drainable hst
    · intro due
      have hdue : s.vacantDue n = true ↔ due := by
        rw [s.vacantDue_iff n]
        refine exists_congr fun r => ?_
        rw [s.probing_iff, s.detachedRuns_iff]
      exact ⟨fun h => if_pos (hdue.mpr h), fun h => if_neg (mt hdue.mp h)⟩
    · intro due
      have hdue : s.pollEmptyDue p = true ↔ due := s.pollEmptyDue_iff p
      refine ⟨fun h => (if_pos (hdue.mpr h)).trans ?_, fun h => if_neg (mt hdue.mp h)⟩
      have hwriter := congrArg (fun f => Option.map f s.writer) (funext fun e => Entry.dropPoll_eq e p)
      exact congrArg (fun w => ({ gone (s.setPoll p none) (.poll p) with writer := w } : State)) hwriter

end Sys2Proof.Machine
